-- ==== Sys2Proof/Word.lean ====
section
/-! DEFINITION. Word.lean: the widths of the hardware's data (00_scope R11, R12, R14) and the plainest helpers on them. -/

namespace Sys2Proof

/-- A symbol: one byte value (R11). -/
abbrev Symbol := BitVec 8

/-- A packed storage unit: 8 bits (R11). -/
abbrev Byte := BitVec 8

/-- One frequency count: CNTW = 32 bits (R12). -/
abbrev Count := BitVec 32

/-- A tree-node weight: WW = 40 bits (R12). -/
abbrev Weight := BitVec 40

/-- A node index 0..510 (R12, R24): below 256 the leaf of that symbol, from 256 on an internal node. -/
abbrev NodeIdx := Fin 511

/-- A command word: CMDW = 48 bits (R12, R80). -/
abbrev CmdWord := BitVec 48

/-- A response word: RSPW = 36 bits (R12, R83). -/
abbrev RspWord := BitVec 36

/-- The table whose entry `i` is `f i`. -/
def vecOfFn {α : Type} {n : Nat} (f : Fin n → α) : Vector α n :=
  ⟨⟨List.ofFn f⟩, by simp⟩

@[simp] theorem vecOfFn_getElem {α : Type} {n : Nat} (f : Fin n → α) (i : Nat) (h : i < n) :
    (vecOfFn f)[i] = f ⟨i, h⟩ := by
  simp [vecOfFn]

end Sys2Proof
end

