-- ==== Sys2Proof/Config.lean ====
section
/-! DEFINITION. Config.lean: the implementation parameters of 00_scope R11 and R12 as this instance has them.
No free value stands here: no command of this hardware leaves a readable value undefined (log entry 1). -/

namespace Sys2Proof.Config

/-- CNTW: bits in one frequency count (R12, decision D3). DESIGN CHOICE: the instance has the spec's default
32 (log entry 6). -/
def cntw : Nat := 32

/-- NSYM: the number of symbol values (R11). -/
def nsym : Nat := 256

/-- UNITW: bits in a packed storage unit (R11). -/
def unitw : Nat := 8

/-- MAXCLEN: the longest possible code, NSYM − 1 bits (R12); also the bound of GEN's recursion depth (R141). -/
def maxClen : Nat := 255

/-- The largest value a count can hold, 2^CNTW − 1 (R103). -/
def countMax : Count := BitVec.ofNat 32 (2 ^ cntw - 1)

end Sys2Proof.Config
end

