-- ==== Sys2Proof/Syntax.lean ====
section
/-! DEFINITION. Syntax.lean: the nineteen commands, one constructor per row of spec/opcode_table.json
(30_encoding R84), with their operands as R82 assembles them. -/

namespace Sys2Proof

/-- One command. Operands stand exactly as in their fields, unsigned (R82). -/
inductive Instr where
  /-- `NOP` (R201). -/
  | nop
  /-- `SRST`: soft reset (R202). -/
  | srst
  /-- `RDCSR csr`: read a control or status register (R203). -/
  | rdcsr (csr : BitVec 8)
  /-- `WRCSR csr, data`: write a control register (R204). -/
  | wrcsr (csr : BitVec 8) (data : BitVec 32)
  /-- `CLEAR`: empty the frequency table (R102). -/
  | clear
  /-- `COUNT sym`: tally one occurrence (R103). -/
  | count (sym : Symbol)
  /-- `WRFREQ sym, count`: load one entry of the frequency table (R107). -/
  | wrfreq (sym : Symbol) (cnt : Count)
  /-- `RDFREQ sym`: read one entry of the frequency table (R106). -/
  | rdfreq (sym : Symbol)
  /-- `BUILD`: build the tree (R121). -/
  | build
  /-- `GEN`: derive the code table (R141). -/
  | gen
  /-- `RDCLEN sym`: read a code's length (R145). -/
  | rdclen (sym : Symbol)
  /-- `RDCODE sym, w`: read 32 bits of a code (R146). -/
  | rdcode (sym : Symbol) (w : BitVec 3)
  /-- `ENC sym`: emit a symbol's code (R147). -/
  | enc (sym : Symbol)
  /-- `PBIT bit`: feed one bit to the packer (R162). -/
  | pbit (bit : Bool)
  /-- `PFLUSH`: end the packed bit sequence (R163). -/
  | pflush
  /-- `UBYTE byte`: unpack one unit that is not the last (R172). -/
  | ubyte (byte : Byte)
  /-- `ULAST byte`: unpack the last unit of a stream (R173). -/
  | ulast (byte : Byte)
  /-- `DBIT bit`: feed one bit to the decoder (R182). -/
  | dbit (bit : Bool)
  /-- `DEND`: end of a bit sequence fed by DBIT (R185). -/
  | dend
  deriving DecidableEq, Repr

end Sys2Proof
end

