-- ==== Sys2Proof/WellFormed.lean ====
section
/-! DEFINITION. WellFormed.lean: the operand-value checks that a command passes before it is legal
(30_encoding R86 lines 3 to 7, R91 items c to f). -/

namespace Sys2Proof

/-- Why a command word is illegal, by name (30_encoding R86, R91). -/
inductive IllegalWord where
  /-- R91 (a): an OPC that is in no row of R84. -/
  | reservedOpcode
  /-- R91 (b): a defined OPC with a 1 in a reserved bit of its format. -/
  | reservedBits
  /-- R91 (c): RDCSR or WRCSR naming a CSR number 0x0A..0xFF. -/
  | reservedCsr
  /-- R91 (d): WRCSR naming a read-only CSR. -/
  | readOnlyCsr
  /-- R91 (e): WRCSR CTRL with data above 3. -/
  | ctrlData
  /-- R91 (e): WRCSR UPAD with data above 7. -/
  | upadData
  /-- R91 (f): WRFREQ with `count ≥ 2^CNTW`. -/
  | countRange
  deriving DecidableEq, Repr

/-- R86 line 7: whether a count fits `cntw` bits. -/
def countFits (cntw : Nat) (cnt : Count) : Bool := decide (cnt.toNat < 2 ^ cntw)

/-- R86, lines 3 to 7: the operand-value check of a command that matched a row; `none` where it passes. -/
def Instr.operandDefect : Instr → Option IllegalWord
  | .rdcsr csr => if 0x09#8 < csr then some .reservedCsr else none
  | .wrcsr csr data =>
    if csr = 0x00#8 then (if 0x3#32 < data then some .ctrlData else none)
    else if csr = 0x08#8 then (if 0x7#32 < data then some .upadData else none)
    else if 0x09#8 < csr then some .reservedCsr
    else some .readOnlyCsr
  | .wrfreq _ cnt => if countFits Config.cntw cnt then none else some .countRange
  | .nop | .srst | .clear | .count _ | .rdfreq _ | .build | .gen | .rdclen _ | .rdcode _ _ | .enc _
  | .pbit _ | .pflush | .ubyte _ | .ulast _ | .dbit _ | .dend => none

/-- A well-formed command: its operand values are legal (R86). -/
def Instr.wf (i : Instr) : Bool := i.operandDefect.isNone

end Sys2Proof
end

