-- ==== Sys2Proof/Decode.lean ====
section
/-! DEFINITION. Decode.lean: the command word's fields and formats (30_encoding R80 to R82), the opcode map (R84),
decoding total on all 2^48 words and rejecting by name (R86, R91), and the encoder written from the same table. -/

namespace Sys2Proof

/-- OPC, bits 47:40 of a command word (R80). -/
def CmdWord.opc (w : CmdWord) : BitVec 8 := w.extractLsb' 40 8

/-- A, bits 39:32 of a command word (R80). -/
def CmdWord.a (w : CmdWord) : BitVec 8 := w.extractLsb' 32 8

/-- D, bits 31:0 of a command word (R80). -/
def CmdWord.d (w : CmdWord) : BitVec 32 := w.extractLsb' 0 32

/-- The command word with the fields OPC, A and D (R80). -/
def CmdWord.ofFields (opc a : BitVec 8) (d : BitVec 32) : CmdWord := opc ++ a ++ d

/-- Formats N and S: D carries no operand and must be 0 (R81). -/
def dZero (d : BitVec 32) : Bool := d == 0#32

/-- Format N: A and D carry no operand and must be 0 (R81). -/
def formatN (a : BitVec 8) (d : BitVec 32) (i : Instr) : Except IllegalWord Instr :=
  if a == 0#8 && dZero d then .ok i else .error .reservedBits

/-- Format S: A is the operand, D must be 0 (R81). -/
def formatS (a : BitVec 8) (d : BitVec 32) (i : BitVec 8 → Instr) : Except IllegalWord Instr :=
  if dZero d then .ok (i a) else .error .reservedBits

/-- Format B: A[0] is the operand, A[7:1] and D must be 0 (R81). -/
def formatB (a : BitVec 8) (d : BitVec 32) (i : Bool → Instr) : Except IllegalWord Instr :=
  if a.extractLsb' 1 7 == 0#7 && dZero d then .ok (i (a.getLsbD 0)) else .error .reservedBits

/-- Format SD: A and D are the operands, nothing is reserved (R81). -/
def formatSD (a : BitVec 8) (d : BitVec 32) (i : BitVec 8 → BitVec 32 → Instr) : Except IllegalWord Instr :=
  .ok (i a d)

/-- Format SW: A and D[2:0] are the operands, D[31:3] must be 0 (R81). -/
def formatSW (a : BitVec 8) (d : BitVec 32) (i : BitVec 8 → BitVec 3 → Instr) : Except IllegalWord Instr :=
  if d.extractLsb' 3 29 == 0#29 then .ok (i a (d.extractLsb' 0 3)) else .error .reservedBits

/-- The opcode map with each row's format (R84): the command that the fields spell, before the operand checks. -/
def decodeRow (opc a : BitVec 8) (d : BitVec 32) : Except IllegalWord Instr :=
  match opc.toNat with
  | 0x00 => formatN a d .nop
  | 0x01 => formatN a d .srst
  | 0x02 => formatS a d .rdcsr
  | 0x03 => formatSD a d .wrcsr
  | 0x10 => formatN a d .clear
  | 0x11 => formatS a d .count
  | 0x12 => formatSD a d .wrfreq
  | 0x13 => formatS a d .rdfreq
  | 0x20 => formatN a d .build
  | 0x30 => formatN a d .gen
  | 0x31 => formatS a d .rdclen
  | 0x32 => formatSW a d .rdcode
  | 0x33 => formatS a d .enc
  | 0x40 => formatB a d .pbit
  | 0x41 => formatN a d .pflush
  | 0x50 => formatS a d .ubyte
  | 0x51 => formatS a d .ulast
  | 0x60 => formatB a d .dbit
  | 0x61 => formatN a d .dend
  | _ => .error .reservedOpcode

/-- R86, whole: the verdict on a command word, the row first and the operand values after it. -/
def decode (w : CmdWord) : Except IllegalWord Instr :=
  match decodeRow w.opc w.a w.d with
  | .error e => .error e
  | .ok i =>
    match i.operandDefect with
    | some e => .error e
    | none => .ok i

/-- The OPC value of a command (R84). -/
def Instr.opc : Instr → BitVec 8
  | .nop => 0x00#8
  | .srst => 0x01#8
  | .rdcsr _ => 0x02#8
  | .wrcsr _ _ => 0x03#8
  | .clear => 0x10#8
  | .count _ => 0x11#8
  | .wrfreq _ _ => 0x12#8
  | .rdfreq _ => 0x13#8
  | .build => 0x20#8
  | .gen => 0x30#8
  | .rdclen _ => 0x31#8
  | .rdcode _ _ => 0x32#8
  | .enc _ => 0x33#8
  | .pbit _ => 0x40#8
  | .pflush => 0x41#8
  | .ubyte _ => 0x50#8
  | .ulast _ => 0x51#8
  | .dbit _ => 0x60#8
  | .dend => 0x61#8

/-- The A field of a command (R81, R82); fault entry records it in ERR.INFO (60_exceptions R246). -/
def Instr.aField : Instr → BitVec 8
  | .rdcsr csr | .wrcsr csr _ => csr
  | .count sym | .wrfreq sym _ | .rdfreq sym | .rdclen sym | .rdcode sym _ | .enc sym => sym
  | .pbit bit | .dbit bit => (BitVec.ofBool bit).setWidth 8
  | .ubyte byte | .ulast byte => byte
  | .nop | .srst | .clear | .build | .gen | .pflush | .dend => 0#8

/-- The D field of a command (R81, R82). -/
def Instr.dField : Instr → BitVec 32
  | .wrcsr _ data => data
  | .wrfreq _ cnt => cnt
  | .rdcode _ w => w.setWidth 32
  | .nop | .srst | .rdcsr _ | .clear | .count _ | .rdfreq _ | .build | .gen | .rdclen _ | .enc _
  | .pbit _ | .pflush | .ubyte _ | .ulast _ | .dbit _ | .dend => 0#32

/-- The command word of a command (R80 to R82, R84). -/
def encode (i : Instr) : CmdWord := CmdWord.ofFields i.opc i.aField i.dField

/-- One row of the opcode table: its mnemonic, the bits it fixes and their values (R84). -/
structure OpcodeRow where
  mnemonic : String
  pattern : CmdWord
  mask : CmdWord
  deriving DecidableEq, Repr

/-- R84: a word spells the command of a row exactly when `(w AND mask) = match`. -/
def OpcodeRow.spells (r : OpcodeRow) (w : CmdWord) : Bool := (w &&& r.mask) == r.pattern

/-- The masks of the five formats (R81). -/
def maskN : CmdWord := 0xFFFFFFFFFFFF#48
def maskS : CmdWord := 0xFF00FFFFFFFF#48
def maskB : CmdWord := 0xFFFEFFFFFFFF#48
def maskSD : CmdWord := 0xFF0000000000#48
def maskSW : CmdWord := 0xFF00FFFFFFF8#48

/-- The opcode map as match and mask, row by row as spec/opcode_table.json has it (R84). -/
def opcodeRows : List OpcodeRow :=
  [⟨"NOP", 0x000000000000#48, maskN⟩, ⟨"SRST", 0x010000000000#48, maskN⟩,
   ⟨"RDCSR", 0x020000000000#48, maskS⟩, ⟨"WRCSR", 0x030000000000#48, maskSD⟩,
   ⟨"CLEAR", 0x100000000000#48, maskN⟩, ⟨"COUNT", 0x110000000000#48, maskS⟩,
   ⟨"WRFREQ", 0x120000000000#48, maskSD⟩, ⟨"RDFREQ", 0x130000000000#48, maskS⟩,
   ⟨"BUILD", 0x200000000000#48, maskN⟩, ⟨"GEN", 0x300000000000#48, maskN⟩,
   ⟨"RDCLEN", 0x310000000000#48, maskS⟩, ⟨"RDCODE", 0x320000000000#48, maskSW⟩] ++
  [⟨"ENC", 0x330000000000#48, maskS⟩, ⟨"PBIT", 0x400000000000#48, maskB⟩,
   ⟨"PFLUSH", 0x410000000000#48, maskN⟩, ⟨"UBYTE", 0x500000000000#48, maskS⟩,
   ⟨"ULAST", 0x510000000000#48, maskS⟩, ⟨"DBIT", 0x600000000000#48, maskB⟩,
   ⟨"DEND", 0x610000000000#48, maskN⟩]

/-- The mnemonic of a command, as its row of the table spells it (R84). -/
def Instr.mnemonic : Instr → String
  | .nop => "NOP"
  | .srst => "SRST"
  | .rdcsr _ => "RDCSR"
  | .wrcsr _ _ => "WRCSR"
  | .clear => "CLEAR"
  | .count _ => "COUNT"
  | .wrfreq _ _ => "WRFREQ"
  | .rdfreq _ => "RDFREQ"
  | .build => "BUILD"
  | .gen => "GEN"
  | .rdclen _ => "RDCLEN"
  | .rdcode _ _ => "RDCODE"
  | .enc _ => "ENC"
  | .pbit _ => "PBIT"
  | .pflush => "PFLUSH"
  | .ubyte _ => "UBYTE"
  | .ulast _ => "ULAST"
  | .dbit _ => "DBIT"
  | .dend => "DEND"

/-- What `decode` reads from an instruction whose bits, numbered as spec/opcode_table.json numbers them, are `w`.
A command is ONE 48-bit word (R80, R93), so bit 0 of the table is bit 0 of the command word; more bits than 48 are
no command. -/
def decodeTableWord (nbits w : Nat) : Option Instr :=
  if nbits ≤ 48 then
    match decode (BitVec.ofNat 48 (w % 2 ^ nbits)) with
    | .ok i => some i
    | .error _ => none
  else none

end Sys2Proof
end

