-- ==== Sys2Proof/Machine/State.lean ====
section
/-! DEFINITION. Machine/State.lean: the complete architectural state of one CORE (10_state R20), what the host has
presented and the CORE has not taken yet (R42, 70_reset R270), the state after reset (R49), and the reasons for which
a step can stop. -/

namespace Sys2Proof.Machine

/-- One record of the node arena (10_state R24): the tag is the record's index. -/
structure Node where
  /-- The aggregate weight, WW = 40 bits. -/
  weight : Weight
  /-- The child on 0. -/
  left : NodeIdx
  /-- The child on 1. -/
  right : NodeIdx
  deriving DecidableEq, Repr

/-- One thing the host presents to the CORE (10_state R42, 70_reset R270). -/
inductive HostInput where
  /-- A 48-bit command word on CMD. -/
  | command (w : CmdWord)
  /-- The reset input, asserted between two commands. -/
  | reset
  deriving DecidableEq, Repr

/-- The state (10_state R20), and the inputs still to be taken. -/
structure State where
  /-- FREQ, one count per symbol; count 0 is "no entry" (R22). -/
  freq : Vector Count 256
  /-- NODE, the arena (R24). -/
  nodes : Vector Node 511
  /-- CLEN, the code lengths (R27). -/
  clen : Vector (BitVec 8) 256
  /-- CODE, the code bit sequences, first bit first (R27). -/
  code : Vector (List Bool) 256
  /-- TV, tree valid (R31). -/
  tv : Bool
  /-- CV, codes valid (R32). -/
  cv : Bool
  /-- NLEAVES, 0..256 (R25). -/
  nleaves : Fin 257
  /-- ROOT (R25). -/
  root : NodeIdx
  /-- CUR, the decoder's cursor (R28). -/
  cur : NodeIdx
  /-- PACC, the packer's accumulator (R29). -/
  pacc : BitVec 8
  /-- PN, how many bits PACC holds (R29). -/
  pn : BitVec 3
  /-- PADLEN, the pad length the last PFLUSH recorded (R29). -/
  padlen : BitVec 3
  /-- UPAD, the pad length ULAST strips (R36). -/
  upad : BitVec 3
  /-- CTRL.EPK, encoder to packer (R35). -/
  epk : Bool
  /-- CTRL.UDC, unpacker to decoder (R35). -/
  udc : Bool
  /-- ERR.CAUSE, 0 if no fault since reset (R37). -/
  errCause : BitVec 4
  /-- ERR.INFO, the A field of the command that faulted (R37). -/
  errInfo : BitVec 8
  /-- ERR.OPC, the OPC field of the command that faulted (R37). -/
  errOpc : BitVec 8
  /-- OUTBYTE, the packed output, oldest first (R45). -/
  outbyte : List Byte
  /-- OUTSYM, the decoded symbols, oldest first (R46). -/
  outsym : List Symbol
  /-- OUTBIT, the unpacked form, oldest first (R47). -/
  outbit : List Bool
  /-- RSP, one response per command, oldest first (R44). -/
  rsp : List RspWord
  /-- What the host has presented and the CORE has not taken, oldest first. DESIGN CHOICE (log entry 3): the
  input channel CMD and the reset input as one list. -/
  input : List HostInput
  deriving DecidableEq, Repr

/-- Why the machine stops. -/
inductive Fault where
  /-- Raised by GEN when TV = 1 but the arena is not a tree of R26: the walk goes deeper than the 255 levels R141
  bounds it by, or NLEAVES = 1 and ROOT is no leaf. No run reaches such a state. Safe: the model stops where the
  spec has no behaviour (log entry 2). -/
  | malformedTree
  deriving DecidableEq, Repr

/-- Why the machine has no meaning for an instruction. -/
inductive Refusal where
  /-- Raised by exec's arm of an instruction that has no meaning yet; no arm of this model raises it. Safe. -/
  | notModelled (mnemonic : String)
  deriving DecidableEq, Repr

/-- The record NODE holds where nothing was written. DESIGN CHOICE, unsafe (log entry 1): R24 leaves the contents
unspecified and lets a model hold any value. -/
def blankNode : Node := ⟨0#40, 0, 0⟩

/-- The state after reset with nothing presented and nothing appended yet (10_state R49, R34). NODE, CLEN and CODE
are unspecified there: DESIGN CHOICE, unsafe (log entry 1). -/
def State.reset : State where
  freq := Vector.replicate 256 0#32
  nodes := Vector.replicate 511 blankNode
  clen := Vector.replicate 256 0#8
  code := Vector.replicate 256 []
  tv := false
  cv := false
  nleaves := 0
  root := 0
  cur := 0
  pacc := 0#8
  pn := 0#3
  padlen := 0#3
  upad := 0#3
  epk := true
  udc := true
  errCause := 0#4
  errInfo := 0#8
  errOpc := 0#8
  outbyte := []
  outsym := []
  outbit := []
  rsp := []
  input := []

end Sys2Proof.Machine
end

