-- ==== Sys2Proof/Machine/Flags.lean ====
section
/-! DEFINITION. Machine/Flags.lean: the flags TV, CV and HALT: how each is set, cleared and seen (10_state R31 to R33,
R38). There are no condition codes (R33). -/

namespace Sys2Proof.Machine

/-- HALT = 1 exactly when ERR.CAUSE ≠ 0 (10_state R33). -/
def State.halted (s : State) : Bool := s.errCause != 0#4

/-- What every command that writes FREQ does to the flags: TV and CV cleared (R31, R32). -/
def State.invalidate (s : State) : State := { s with tv := false, cv := false }

/-- What BUILD does to the flags: TV set, CV cleared (R31, R32, R121). -/
def State.treePublished (s : State) : State := { s with tv := true, cv := false }

/-- What GEN does to the flags: CV set (R32, R141). -/
def State.codesPublished (s : State) : State := { s with cv := true }

/-- The STATUS view (R38, 46_system R203): `{PN, 0, HALT, CV, TV}` in bits 6:0. -/
def State.statusView (s : State) : BitVec 32 :=
  (s.pn ++ 0#1 ++ BitVec.ofBool s.halted ++ BitVec.ofBool s.cv ++ BitVec.ofBool s.tv).setWidth 32

end Sys2Proof.Machine
end

