-- ==== Sys2Proof/Machine/Ops.lean ====
section
/-! DEFINITION. Machine/Ops.lean: the named operations over the tables, the streams and the response (20_memory R61,
10_state R44 to R48), reset (R49, 70_reset R270), fault entry and the one dispatch procedure every command goes through
(60_exceptions R245, R246). -/

namespace Sys2Proof.Machine

/-! ## The index spaces (20_memory R60, R61): every element is read and written whole. -/

/-- `FREQ[sym]`. -/
def State.readFreq (s : State) (sym : Symbol) : Count := s.freq[sym.toFin]

/-- `FREQ[sym] <- v`. -/
def State.writeFreq (s : State) (sym : Symbol) (v : Count) : State :=
  { s with freq := s.freq.set sym.toNat v sym.isLt }

/-- `NODE[i]`. -/
def State.readNode (s : State) (i : NodeIdx) : Node := s.nodes[i]

/-- `CLEN[sym]`. -/
def State.readClen (s : State) (sym : Symbol) : BitVec 8 := s.clen[sym.toFin]

/-- `CODE[sym]`, the bit sequence of CLEN[sym] bits (10_state R27, log entry 7). -/
def State.readCode (s : State) (sym : Symbol) : List Bool :=
  s.code[sym.toFin].take (s.readClen sym).toNat

/-! ## The output streams (10_state R44 to R47) -/

/-- `OUTBYTE.append(v)`. -/
def State.emitByte (s : State) (v : Byte) : State := { s with outbyte := s.outbyte ++ [v] }

/-- `OUTSYM.append(v)`, for each `v` of a list in order. -/
def State.emitSyms (s : State) (vs : List Symbol) : State := { s with outsym := s.outsym ++ vs }

/-- `OUTBIT.append(b)`. -/
def State.emitBit (s : State) (b : Bool) : State := { s with outbit := s.outbit ++ [b] }

/-- A response word: STAT in bits 35:32, RDATA in bits 31:0 (R44, 30_encoding R83). -/
def rspWord (stat : BitVec 4) (rdata : BitVec 32) : RspWord := stat ++ rdata

/-- `RSP.append({STAT, RDATA})`. -/
def State.respond (s : State) (stat : BitVec 4) (rdata : BitVec 32) : State :=
  { s with rsp := s.rsp ++ [rspWord stat rdata] }

/-! ## Reset (10_state R48, R49; 70_reset R270 to R272) -/

/-- The effect of the reset input and of SRST on the state: every register and table at its reset value; the output
streams, and what the host has presented, keep their contents. -/
def State.toReset (s : State) : State :=
  { State.reset with
    outbyte := s.outbyte, outsym := s.outsym, outbit := s.outbit, rsp := s.rsp, input := s.input }

/-! ## Faults (60_exceptions R241, R246) -/

/-- The causes of a fault (R241). -/
inductive Cause where
  /-- The bit sequence ended mid-path. -/
  | truncatedStream
  /-- COUNT on a full counter. -/
  | countOverflow
  /-- A command that needs the tree while TV = 0. -/
  | noTree
  /-- A code asked for while CV = 0, or of a symbol that has none. -/
  | noCode
  /-- A bit for the decoder while the tree is empty. -/
  | emptyTreeBit
  /-- An illegal command word. -/
  | illegalCommand
  deriving DecidableEq, Repr

/-- The cause codes, the values of STAT and ERR.CAUSE (R241). -/
def Cause.code : Cause → BitVec 4
  | .truncatedStream => 1#4
  | .countOverflow => 2#4
  | .noTree => 3#4
  | .noCode => 4#4
  | .emptyTreeBit => 5#4
  | .illegalCommand => 6#4

/-- STAT of a command that completed (R241). -/
def statOk : BitVec 4 := 0#4

/-- STAT of a command refused because the CORE is halted (R241, R248). -/
def statHalted : BitVec 4 := 15#4

/-- Fault entry (R246): ERR written from the faulting word's A and OPC fields, the cause answered. HALT becomes 1
because ERR.CAUSE ≠ 0. There is no saved pc and no handler; the way back is reset alone (R249). -/
def State.faultEntry (s : State) (c : Cause) (opc a : BitVec 8) : State :=
  { s with errCause := c.code, errInfo := a, errOpc := opc }.respond c.code 0#32

/-- The answer of a halted CORE (R245, R248): STAT 15 and no other change. -/
def State.refuseHalted (s : State) : State := s.respond statHalted 0#32

/-! ## The dispatch procedure (R245) -/

/-- How a command's pseudocode ends (00_scope R15, R16). -/
inductive CmdResult where
  /-- It ran to its end; `rdata` is the value given to `respond`, 0 if none was. -/
  | done (s : State) (rdata : BitVec 32)
  /-- It raised a fault; the state keeps every change made by earlier lines. -/
  | raise (c : Cause) (s : State)
  /-- It met a state for which the spec has no behaviour. -/
  | stop (f : Fault)
  deriving DecidableEq, Repr

/-- What the CORE does with the end of command `i` (R245, R246). -/
def CmdResult.conclude (i : Instr) : CmdResult → Host.Outcome State Fault Refusal
  | .done s rdata => .next (s.respond statOk rdata)
  | .raise c s => .next (s.faultEntry c i.opc i.aField)
  | .stop f => .fault f

/-- R245 for a command other than SRST and a legal RDCSR: refused while halted, else its rule is run. -/
def runCommand (i : Instr) (body : State → CmdResult) (s : State) : Host.Outcome State Fault Refusal :=
  if s.halted then .next s.refuseHalted else (body s).conclude i

/-- R245 for a command that also runs while halted. -/
def runAlways (i : Instr) (body : State → CmdResult) (s : State) : Host.Outcome State Fault Refusal :=
  (body s).conclude i

/-- R245 for an illegal command word (30_encoding R91): Halted while halted, else fault entry with cause 6. -/
def State.illegalWord (s : State) (w : CmdWord) : State :=
  if s.halted then s.refuseHalted else s.faultEntry .illegalCommand w.opc w.a

end Sys2Proof.Machine
end

