-- ==== Sys2Proof/Machine/Operands.lean ====
section
/-! DEFINITION. Machine/Operands.lean: the forms in which a command reads its operands: the bits of a unit, the code
vector and its words, the CSR views and the legal CSR writes. -/

namespace Sys2Proof.Machine

/-! ## Bits of a storage unit (20_memory R63) -/

/-- The bits of a unit from bit 7 down to bit `p`, in the order the unpacker delivers them (44_bit_unpacker R172,
R173). -/
def unitBits (byte : Byte) (p : Nat) : List Bool :=
  (List.range (8 - p)).map fun j => byte.getLsbD (7 - j)

/-! ## The code read-out view (42_code_generator R146, 20_memory R66) -/

/-- The 256-bit vector of a code: first code bit in the most significant bit, zero filled below (R146). -/
def codeVector (bits : List Bool) : BitVec 256 :=
  (BitVec.ofBoolListBE bits).setWidth 256 <<< (256 - bits.length)

/-- Word `w` of a code vector, word 0 the most significant: `V[255 − 32·w : 224 − 32·w]` (R146). -/
def codeWord (bits : List Bool) (w : BitVec 3) : BitVec 32 :=
  (codeVector bits).extractLsb' (224 - 32 * w.toNat) 32

/-! ## The control and status registers (10_state R34 to R39, 46_system R203, R204) -/

/-- TOTAL, the derived 40-bit value: the root's weight while there is a tree with a leaf, else 0 (R39). -/
def State.total (s : State) : Weight :=
  if s.tv && s.nleaves != 0 then (s.readNode s.root).weight else 0#40

/-- The ERR view: `{OPC, INFO, 0000, CAUSE}` in bits 23:0 (R37, R203). -/
def State.errView (s : State) : BitVec 32 :=
  0#8 ++ s.errOpc ++ s.errInfo ++ 0#4 ++ s.errCause

/-- The CTRL view: `{UDC, EPK}` in bits 1:0 (R35, R203). -/
def State.ctrlView (s : State) : BitVec 32 :=
  (BitVec.ofBool s.udc ++ BitVec.ofBool s.epk).setWidth 32

/-- `view(csr)`, the 32-bit view of a CSR (R34, R203); `none` for a reserved number. -/
def State.csrView (s : State) (csr : BitVec 8) : Option (BitVec 32) :=
  match csr.toNat with
  | 0x00 => some s.ctrlView
  | 0x01 => some s.statusView
  | 0x02 => some s.errView
  | 0x03 => some (BitVec.ofNat 32 s.nleaves.val)
  | 0x04 => some (BitVec.ofNat 32 s.root.val)
  | 0x05 => some (s.total.extractLsb' 0 32)
  | 0x06 => some ((s.total.extractLsb' 32 8).setWidth 32)
  | 0x07 => some (s.padlen.setWidth 32)
  | 0x08 => some (s.upad.setWidth 32)
  | 0x09 => some (BitVec.ofNat 32 s.cur.val)
  | _ => none

/-- `WRCSR csr, data` (R204): the state with the register written; `none` where the write is illegal (30_encoding
R86, R91 items c to e). -/
def State.csrWrite (s : State) (csr : BitVec 8) (data : BitVec 32) : Option State :=
  if csr = 0x00#8 then
    if data.toNat ≤ 3 then some { s with epk := data.getLsbD 0, udc := data.getLsbD 1 } else none
  else if csr = 0x08#8 then
    if data.toNat ≤ 7 then some { s with upad := data.extractLsb' 0 3 } else none
  else none

end Sys2Proof.Machine
end

