-- ==== Sys2Proof/Machine/Packer.lean ====
section
/-! DEFINITION. Machine/Packer.lean: PackBit, PBIT, PFLUSH (43_bit_packer R161 to R163). -/

namespace Sys2Proof.Machine

/-- Micro-operation `PackBit(b)` (R161). -/
def packBit (s : State) (b : Bool) : State :=
  if s.pn = 7#3 then
    { s.emitByte ((s.pacc <<< 1) ||| (BitVec.ofBool b).setWidth 8) with pacc := 0#8, pn := 0#3 }
  else
    { s with pacc := (s.pacc <<< 1) ||| (BitVec.ofBool b).setWidth 8, pn := s.pn + 1#3 }

/-- The pseudocode of `PFLUSH` (R163): the remainder padded with zeros below, the pad length recorded. -/
def flushed (s : State) : State :=
  if s.pn = 0#3 then { s with padlen := 0#3, pacc := 0#8, pn := 0#3 }
  else
    { s.emitByte (s.pacc <<< (8 - s.pn.toNat)) with
      padlen := BitVec.ofNat 3 (8 - s.pn.toNat), pacc := 0#8, pn := 0#3 }

/-- `PBIT bit` (R162). -/
def execPbit (bit : Bool) (s : State) : Host.Outcome State Fault Refusal :=
  runCommand (.pbit bit) (fun s => .done (packBit s bit) 0#32) s

/-- `PFLUSH` (R163). -/
def execPflush (s : State) : Host.Outcome State Fault Refusal :=
  runCommand .pflush (fun s => .done (flushed s) 0#32) s

end Sys2Proof.Machine
end

