-- ==== Sys2Proof/Machine/TreeBuilder.lean ====
section
/-! DEFINITION. Machine/TreeBuilder.lean: BUILD (41_tree_builder R121 to R129). The construction is a function of FREQ
and of the arena's old contents, so that what it does can be said without the rest of the state. -/

namespace Sys2Proof.Machine

/-- The node index of the leaf of a symbol (10_state R24). -/
def leafIdx (sym : Fin 256) : NodeIdx := sym.castLE (by decide)

/-- The node index of the `k`-th internal node, 256 + k (10_state R24); BUILD uses k ≤ 254 (R126). -/
def internalIdx (k : Nat) : NodeIdx := Fin.ofNat 511 (256 + k)

/-- Step 1 of BUILD, the arena: all 256 leaf records written from FREQ, the internal records kept (R121, R122). -/
def seedNodes (freq : Vector Count 256) (nodes : Vector Node 511) : Vector Node 511 :=
  vecOfFn fun i => if h : i.val < 256 then ⟨(freq[i.val]).setWidth 40, 0, 0⟩ else nodes[i]

/-- Step 1 of BUILD, the collection: the leaves of the present symbols (R121, R122). -/
def seedLive (freq : Vector Count 256) : List NodeIdx :=
  ((List.finRange 256).zip freq.toList).filterMap fun entry =>
    if entry.2 = 0#32 then none else some (leafIdx entry.1)

/-- The priority order (R123): lower weight first, among equal weights lower index first. -/
def before (nodes : Vector Node 511) (i j : NodeIdx) : Bool :=
  decide ((nodes[i]).weight < (nodes[j]).weight) || ((nodes[i]).weight == (nodes[j]).weight && decide (i < j))

/-- The least of `i` and the elements of a list under the priority order (R123). -/
def least (nodes : Vector Node 511) : NodeIdx → List NodeIdx → NodeIdx
  | i, [] => i
  | i, j :: rest => least nodes (if before nodes j i then j else i) rest

/-- `ExtractMin(live)` (R123): the least element, and the collection without it. -/
def extractMin (nodes : Vector Node 511) : List NodeIdx → Option (NodeIdx × List NodeIdx)
  | [] => none
  | i :: rest => some (least nodes i rest, (i :: rest).erase (least nodes i rest))

/-- The record of a merge of `x` and `y` (R121, R124): the first extracted is the left child. -/
def mergedNode (nodes : Vector Node 511) (x y : NodeIdx) : Node :=
  ⟨(nodes[x]).weight + (nodes[y]).weight, x, y⟩

/-- Step 2 of BUILD (R121): `m` merges, the first of which creates internal node `k`. -/
def mergeLoop : (m k : Nat) → Vector Node 511 → List NodeIdx → Vector Node 511
  | 0, _, nodes, _ => nodes
  | m + 1, k, nodes, live =>
    match extractMin nodes live with
    | none => nodes
    | some (x, live1) =>
      match extractMin nodes live1 with
      | none => nodes
      | some (y, live2) =>
        mergeLoop m (k + 1) (nodes.set (internalIdx k) (mergedNode nodes x y)) (internalIdx k :: live2)

/-- ROOT after a BUILD whose seeded collection is given (R121, R125). -/
def rootOf : List NodeIdx → NodeIdx
  | [] => 0
  | [i] => i
  | i :: j :: rest => internalIdx ((i :: j :: rest).length - 2)

/-- What BUILD writes: NODE, NLEAVES and ROOT. -/
structure BuiltTree where
  nodes : Vector Node 511
  nleaves : Fin 257
  root : NodeIdx
  deriving DecidableEq, Repr

/-- The whole construction (R121): from FREQ and the arena's old contents. -/
def buildTree (freq : Vector Count 256) (old : Vector Node 511) : BuiltTree where
  nodes := mergeLoop ((seedLive freq).length - 1) 0 (seedNodes freq old) (seedLive freq)
  nleaves := Fin.ofNat 257 (seedLive freq).length
  root := rootOf (seedLive freq)

/-- The tree the state holds. -/
def State.tree (s : State) : BuiltTree := ⟨s.nodes, s.nleaves, s.root⟩

/-- NODE, NLEAVES and ROOT written, and CUR put on the root (R121). -/
def State.writeTree (s : State) (t : BuiltTree) : State :=
  { s with nodes := t.nodes, nleaves := t.nleaves, root := t.root, cur := t.root }

/-- `BUILD` (R121): the tree of the current FREQ, TV set, CV cleared, CUR on the root. It cannot fail. -/
def execBuild (s : State) : Host.Outcome State Fault Refusal :=
  runCommand .build (fun s => .done (s.writeTree (buildTree s.freq s.nodes)).treePublished 0#32) s

end Sys2Proof.Machine
end

