-- ==== Sys2Proof/Machine/CodeGen.lean ====
section
/-! DEFINITION. Machine/CodeGen.lean: GEN, RDCLEN, RDCODE, ENC (42_code_generator R141 to R148). -/

namespace Sys2Proof.Machine

/-- What GEN writes: CLEN and CODE (10_state R27). -/
structure CodeTables where
  clen : Vector (BitVec 8) 256
  code : Vector (List Bool) 256
  deriving DecidableEq, Repr

/-- Every symbol with no code (R141, first line). -/
def CodeTables.blank : CodeTables := ⟨Vector.replicate 256 0#8, Vector.replicate 256 []⟩

/-- `CODE[sym] <- path; CLEN[sym] <- len(path)` (R141). -/
def CodeTables.write (t : CodeTables) (sym : Symbol) (path : List Bool) : CodeTables :=
  ⟨t.clen.set sym.toNat (BitVec.ofNat 8 path.length) sym.isLt, t.code.set sym.toNat path sym.isLt⟩

/-- `Walk(i, path)` (R141): the leaves met, each with its path, left before right. `depth` bounds the levels still
allowed below `i`; `none` where the walk goes deeper, which no tree of 10_state R26 makes it do (log entry 2). -/
def walk (nodes : Vector Node 511) : (depth : Nat) → NodeIdx → List Bool → Option (List (Symbol × List Bool))
  | 0, i, path => if i.val < 256 then some [(BitVec.ofNat 8 i.val, path)] else none
  | depth + 1, i, path =>
    if i.val < 256 then some [(BitVec.ofNat 8 i.val, path)]
    else
      match walk nodes depth (nodes[i]).left (path ++ [false]), walk nodes depth (nodes[i]).right (path ++ [true]) with
      | some l, some r => some (l ++ r)
      | _, _ => none

/-- The code tables of a tree (R141 to R143); `none` on a malformed tree (log entry 2). -/
def genCodes (t : BuiltTree) : Option CodeTables :=
  if t.nleaves = 0 then some .blank
  else if t.nleaves = 1 then
    if t.root.val < 256 then some (CodeTables.blank.write (BitVec.ofNat 8 t.root.val) [true]) else none
  else
    match walk t.nodes Config.maxClen t.root [] with
    | some leaves => some (leaves.foldl (fun tables leaf => tables.write leaf.1 leaf.2) .blank)
    | none => none

/-- CLEN and CODE as the state holds them. -/
def State.codes (s : State) : CodeTables := ⟨s.clen, s.code⟩

/-- CLEN and CODE written. -/
def State.writeCodes (s : State) (t : CodeTables) : State := { s with clen := t.clen, code := t.code }

/-- The pseudocode of `GEN` (R141). -/
def genBody (s : State) : CmdResult :=
  if s.tv then
    match genCodes s.tree with
    | some tables => .done (s.writeCodes tables).codesPublished 0#32
    | none => .stop .malformedTree
  else .raise .noTree s

/-- `GEN` (R141). -/
def execGen (s : State) : Host.Outcome State Fault Refusal :=
  runCommand .gen genBody s

/-- `RDCLEN sym` (R145). -/
def execRdclen (sym : Symbol) (s : State) : Host.Outcome State Fault Refusal :=
  runCommand (.rdclen sym) (fun s =>
    if s.cv then .done s ((s.readClen sym).setWidth 32) else .raise .noCode s) s

/-- `RDCODE sym, w` (R146). -/
def execRdcode (sym : Symbol) (w : BitVec 3) (s : State) : Host.Outcome State Fault Refusal :=
  runCommand (.rdcode sym w) (fun s =>
    if s.cv then .done s (codeWord (s.readCode sym) w) else .raise .noCode s) s

/-- Micro-operation `EmitCodeBit(b)` (R148): to the packer when EPK = 1, else to OUTBIT. -/
def emitCodeBit (s : State) (b : Bool) : State :=
  if s.epk then packBit s b else s.emitBit b

/-- The pseudocode of `ENC sym` (R147). -/
def encBody (sym : Symbol) (s : State) : CmdResult :=
  if !s.cv || s.readClen sym == 0#8 then .raise .noCode s
  else .done ((s.readCode sym).foldl emitCodeBit s) 0#32

/-- `ENC sym` (R147). -/
def execEnc (sym : Symbol) (s : State) : Host.Outcome State Fault Refusal :=
  runCommand (.enc sym) (encBody sym) s

end Sys2Proof.Machine
end

