-- ==== Sys2Proof/Machine/FreqCounter.lean ====
section
/-! DEFINITION. Machine/FreqCounter.lean: CLEAR, COUNT, WRFREQ, RDFREQ (40_frequency_counter R102, R103, R106,
R107). -/

namespace Sys2Proof.Machine

/-- `CLEAR` (R102): every count 0, TV and CV cleared. -/
def execClear (s : State) : Host.Outcome State Fault Refusal :=
  runCommand .clear (fun s => .done { s with freq := Vector.replicate 256 0#32 }.invalidate 0#32) s

/-- The pseudocode of `COUNT sym` (R103): CountOverflow on a full counter, else one more. -/
def countBody (sym : Symbol) (s : State) : CmdResult :=
  if s.readFreq sym = Config.countMax then .raise .countOverflow s
  else .done (s.writeFreq sym (s.readFreq sym + 1#32)).invalidate 0#32

/-- `COUNT sym` (R103). -/
def execCount (sym : Symbol) (s : State) : Host.Outcome State Fault Refusal :=
  runCommand (.count sym) (countBody sym) s

/-- `WRFREQ sym, count` (R107): the entry loaded, TV and CV cleared; a count that does not fit CNTW bits is an illegal
command (30_encoding R86), which CNTW = 32 leaves no room for. -/
def execWrfreq (sym : Symbol) (cnt : Count) (s : State) : Host.Outcome State Fault Refusal :=
  runCommand (.wrfreq sym cnt) (fun s =>
    if countFits Config.cntw cnt then .done (s.writeFreq sym cnt).invalidate 0#32
    else .raise .illegalCommand s) s

/-- `RDFREQ sym` (R106): the count, with no side effect. -/
def execRdfreq (sym : Symbol) (s : State) : Host.Outcome State Fault Refusal :=
  runCommand (.rdfreq sym) (fun s => .done s (s.readFreq sym)) s

end Sys2Proof.Machine
end

