-- ==== Sys2Proof/Machine/System.lean ====
section
/-! DEFINITION. Machine/System.lean: NOP, SRST, RDCSR, WRCSR (46_system R201 to R204). -/

namespace Sys2Proof.Machine

/-- `NOP` (R201): no state change, no output. -/
def execNop (s : State) : Host.Outcome State Fault Refusal :=
  runCommand .nop (fun s => .done s 0#32) s

/-- `SRST` (R202): every register and table to its reset value; executed even while the CORE is halted (60_exceptions
R245, R249). -/
def execSrst (s : State) : Host.Outcome State Fault Refusal :=
  runAlways .srst (fun s => .done s.toReset 0#32) s

/-- `RDCSR csr` (R203): a legal one is executed even while the CORE is halted; an illegal one raises IllegalCommand,
or is refused while halted (60_exceptions R245). -/
def execRdcsr (csr : BitVec 8) (s : State) : Host.Outcome State Fault Refusal :=
  match s.csrView csr with
  | some v => runAlways (.rdcsr csr) (fun s => .done s v) s
  | none => runCommand (.rdcsr csr) (fun s => .raise .illegalCommand s) s

/-- `WRCSR csr, data` (R204): any other CSR and any data outside the legal range raises IllegalCommand and writes
nothing. -/
def execWrcsr (csr : BitVec 8) (data : BitVec 32) (s : State) : Host.Outcome State Fault Refusal :=
  runCommand (.wrcsr csr data) (fun s =>
    match s.csrWrite csr data with
    | some s' => .done s' 0#32
    | none => .raise .illegalCommand s) s

end Sys2Proof.Machine
end

