-- ==== Sys2Proof/Machine/Decoder.lean ====
section
/-! DEFINITION. Machine/Decoder.lean: DecCheck, DecBit, DecEnd, DBIT, DEND (45_decoder R181 to R187). -/

namespace Sys2Proof.Machine

/-- Micro-operation `DecCheck(nbits)` (R181): the fault it raises, if any. -/
def decCheck (nbits : Nat) (s : State) : Option Cause :=
  if !s.tv then some .noTree
  else if s.nleaves == 0 && decide (0 < nbits) then some .emptyTreeBit
  else none

/-- The child the cursor moves to on a bit (R183): left on 0, right on 1. -/
def childOn (n : Node) (b : Bool) : NodeIdx := if b then n.right else n.left

/-- Micro-operation `DecBit(b)` (R183). -/
def decBit (s : State) (b : Bool) : State :=
  if s.nleaves = 1 then s
  else
    let next := childOn (s.readNode s.cur) b
    if next.val < 256 then { s.emitSyms [BitVec.ofNat 8 next.val] with cur := s.root }
    else { s with cur := next }

/-- Micro-operation `DecEnd()` (R184, R186, R187). -/
def decEnd (s : State) : CmdResult :=
  if s.nleaves = 0 then .done s 0#32
  else if s.nleaves = 1 then
    .done (s.emitSyms (List.replicate (s.readNode s.root).weight.toNat (BitVec.ofNat 8 s.root.val))) 0#32
  else if s.cur ≠ s.root then .raise .truncatedStream s
  else .done s 0#32

/-- `DBIT bit` (R182). -/
def execDbit (bit : Bool) (s : State) : Host.Outcome State Fault Refusal :=
  runCommand (.dbit bit) (fun s =>
    match decCheck 1 s with
    | some c => .raise c s
    | none => .done (decBit s bit) 0#32) s

/-- `DEND` (R185). -/
def execDend (s : State) : Host.Outcome State Fault Refusal :=
  runCommand .dend (fun s =>
    match decCheck 0 s with
    | some c => .raise c s
    | none => decEnd s) s

end Sys2Proof.Machine
end

