-- ==== Sys2Proof/Machine/Unpacker.lean ====
section
/-! DEFINITION. Machine/Unpacker.lean: DeliverBit, UBYTE, ULAST (44_bit_unpacker R171 to R173). -/

namespace Sys2Proof.Machine

/-- Micro-operation `DeliverBit(b)` (R171): to the decoder when UDC = 1, else to OUTBIT. -/
def deliverBit (s : State) (b : Bool) : State :=
  if s.udc then decBit s b else s.emitBit b

/-- The decoder's admission check of an unpacker command: made when UDC = 1 only (R172, R173). -/
def unpackCheck (nbits : Nat) (s : State) : Option Cause :=
  if s.udc then decCheck nbits s else none

/-- The pseudocode of `UBYTE byte` (R172). -/
def ubyteBody (byte : Byte) (s : State) : CmdResult :=
  match unpackCheck 8 s with
  | some c => .raise c s
  | none => .done ((unitBits byte 0).foldl deliverBit s) 0#32

/-- `UBYTE byte` (R172). -/
def execUbyte (byte : Byte) (s : State) : Host.Outcome State Fault Refusal :=
  runCommand (.ubyte byte) (ubyteBody byte) s

/-- The pseudocode of `ULAST byte` (R173): the data bits, then the end of the decoder's stream when UDC = 1. -/
def ulastBody (byte : Byte) (s : State) : CmdResult :=
  match unpackCheck (8 - s.upad.toNat) s with
  | some c => .raise c s
  | none =>
    let s' := (unitBits byte s.upad.toNat).foldl deliverBit s
    if s.udc then decEnd s' else .done s' 0#32

/-- `ULAST byte` (R173). -/
def execUlast (byte : Byte) (s : State) : Host.Outcome State Fault Refusal :=
  runCommand (.ulast byte) (ulastBody byte) s

end Sys2Proof.Machine
end

