-- ==== Sys2Proof/Machine/Dispatch.lean ====
section
/-! DEFINITION. Machine/Dispatch.lean: one arm per command, each one call of its meaning. -/

namespace Sys2Proof.Machine

def exec (i : Instr) (s : State) : Host.Outcome State Fault Refusal :=
  match i with
  | .nop => Sys2Proof.Machine.execNop s
  | .srst => Sys2Proof.Machine.execSrst s
  | .rdcsr csr => Sys2Proof.Machine.execRdcsr csr s
  | .wrcsr csr data => Sys2Proof.Machine.execWrcsr csr data s
  | .clear => Sys2Proof.Machine.execClear s
  | .count sym => Sys2Proof.Machine.execCount sym s
  | .wrfreq sym cnt => Sys2Proof.Machine.execWrfreq sym cnt s
  | .rdfreq sym => Sys2Proof.Machine.execRdfreq sym s
  | .build => Sys2Proof.Machine.execBuild s
  | .gen => Sys2Proof.Machine.execGen s
  | .rdclen sym => Sys2Proof.Machine.execRdclen sym s
  | .rdcode sym w => Sys2Proof.Machine.execRdcode sym w s
  | .enc sym => Sys2Proof.Machine.execEnc sym s
  | .pbit bit => Sys2Proof.Machine.execPbit bit s
  | .pflush => Sys2Proof.Machine.execPflush s
  | .ubyte byte => Sys2Proof.Machine.execUbyte byte s
  | .ulast byte => Sys2Proof.Machine.execUlast byte s
  | .dbit bit => Sys2Proof.Machine.execDbit bit s
  | .dend => Sys2Proof.Machine.execDend s

end Sys2Proof.Machine
end

