-- ==== Sys2Proof/Machine/Fetch.lean ====
section
/-! DEFINITION. Machine/Fetch.lean: how the CORE takes its next input: idle, reset, an illegal word, or a command to
run (10_state R42, R43; 60_exceptions R245; 70_reset R270, R284). -/

namespace Sys2Proof.Machine

/-- What the CORE finds when it looks for its next input. -/
inductive Fetched where
  /-- It has its next state without running a command: nothing was presented, a reset, or an illegal word. -/
  | settled (s : State)
  /-- A legal command, taken off the channel, to be run in the state given. -/
  | command (i : Instr) (s : State)

/-- The CORE takes the oldest input the host presented. With none it idles and holds its state (60_exceptions R260,
70_reset R284: DEDUCED, log entry 3). -/
def fetch (s : State) : Fetched :=
  match s.input with
  | [] => .settled s
  | .reset :: rest => .settled { s.toReset with input := rest }
  | .command w :: rest =>
    match decode w with
    | .ok i => .command i { s with input := rest }
    | .error _ => .settled ({ s with input := rest }.illegalWord w)

/-- The state with one more input presented first, before all that waits (log entry 3). -/
def State.presentFirst (s : State) (x : HostInput) : State := { s with input := x :: s.input }

/-- The command word whose bits, numbered as spec/opcode_table.json numbers them, are `w`, with every bit above
`nbits` zero (30_encoding R80). -/
def tableWord (nbits w : Nat) : CmdWord := BitVec.ofNat 48 (w % 2 ^ nbits)

end Sys2Proof.Machine
end

