-- ==== Sys2Proof/Machine/Step.lean ====
section
/-! DEFINITION. Machine/Step.lean: one step is one input of the host (00_scope R16, 60_exceptions R245). -/

namespace Sys2Proof.Machine

/-- One step: the oldest input is taken and acted on; a legal command is run (R16, R245). -/
def step (s : State) : Host.Outcome State Fault Refusal :=
  match fetch s with
  | .settled s' => .next s'
  | .command i s' => exec i s'

/-- The state with the instruction whose bits are `w` presented as the next input. This stands for the host
presenting a word on CMD: the CORE has no stored program (10_state R30, log entry 3). -/
def State.withFetchWord (s : State) (nbits w : Nat) : State :=
  s.presentFirst (.command (tableWord nbits w))

end Sys2Proof.Machine
end

