-- ==== Sys2Proof/Safety.lean ====
section
/-! DEFINITION. Safety.lean: the terms in which claims about the CORE are stated: what counts as a run without fault,
the values reset leaves, the invariant of every step, and the spec's own vocabulary for trees, paths, packed streams and
sessions. -/

namespace Sys2Proof.Machine

/-- A run that ended without fault (70_reset R284): ERR.CAUSE = 0. -/
def State.FaultFree (s : State) : Prop := s.errCause = 0#4

/-- The values the spec states for every register after reset or SRST (10_state R49). NODE, CLEN and CODE are
unspecified and left out. -/
structure State.ResetValues (t : State) : Prop where
  freq : ∀ sym : Symbol, t.readFreq sym = 0#32
  tv : t.tv = false
  cv : t.cv = false
  nleaves : t.nleaves = 0
  root : t.root = 0
  cur : t.cur = 0
  pacc : t.pacc = 0#8
  pn : t.pn = 0#3
  padlen : t.padlen = 0#3
  upad : t.upad = 0#3
  epk : t.epk = true
  udc : t.udc = true
  errCause : t.errCause = 0#4
  errInfo : t.errInfo = 0#8
  errOpc : t.errOpc = 0#8

/-- A present symbol (00_scope R19): its count is not 0. -/
def Present (freq : Vector Count 256) (sym : Symbol) : Prop := freq[sym.toFin] ≠ 0#32

/-- The number of present symbols (10_state R25). -/
def presentCount (freq : Vector Count 256) : Nat :=
  (List.finRange 256).countP fun sym => freq[sym] != 0#32

/-- The sum of all counts (10_state R26 item 4, R39). -/
def countSum (freq : Vector Count 256) : Nat :=
  ((List.finRange 256).map fun sym => (freq[sym]).toNat).sum

/-- The path `bits` leads from node `i` to node `j`: left child on 0, right child on 1, every node left on the way
internal (10_state R27, 42_code_generator R142). -/
def Reaches (nodes : Vector Node 511) : NodeIdx → List Bool → NodeIdx → Prop
  | i, [], j => i = j
  | i, b :: bits, j => 256 ≤ i.val ∧ Reaches nodes (childOn nodes[i] b) bits j

/-- The nodes of the tree (10_state R26 item 1): the present leaves, and the internal nodes 256 .. ROOT when there are
at least two leaves. -/
def InTree (freq : Vector Count 256) (t : BuiltTree) (i : NodeIdx) : Prop :=
  (∃ sym : Symbol, i.val = sym.toNat ∧ Present freq sym) ∨ (2 ≤ t.nleaves.val ∧ 256 ≤ i.val ∧ i ≤ t.root)

/-- `i` is a child of the internal node `p` of the tree. -/
def ChildOf (t : BuiltTree) (i p : NodeIdx) : Prop :=
  256 ≤ p.val ∧ p ≤ t.root ∧ ((t.nodes[p]).left = i ∨ (t.nodes[p]).right = i)

/-- BUILD's collection before its `k`-th merge, said through the finished tree (41_tree_builder R121): the present
leaves and the internal nodes made so far that are no child of an internal node made so far. -/
def LiveBefore (freq : Vector Count 256) (nodes : Vector Node 511) (k : Nat) (i : NodeIdx) : Prop :=
  ((∃ sym : Symbol, i.val = sym.toNat ∧ Present freq sym) ∨ (256 ≤ i.val ∧ i.val < 256 + k)) ∧
    ∀ p : NodeIdx, 256 ≤ p.val → p.val < 256 + k → (nodes[p]).left ≠ i ∧ (nodes[p]).right ≠ i

/-- The strict total order of 41_tree_builder R123 on node indices. -/
def Precedes (nodes : Vector Node 511) (i j : NodeIdx) : Prop :=
  (nodes[i]).weight.toNat < (nodes[j]).weight.toNat ∨
    ((nodes[i]).weight.toNat = (nodes[j]).weight.toNat ∧ i < j)

/-- A strict binary tree with symbols at its leaves: what 41_tree_builder R128 compares BUILD's tree with. -/
inductive SymTree where
  | leaf (sym : Symbol)
  | node (l r : SymTree)
  deriving DecidableEq, Repr

/-- The leaves of a tree, left to right. -/
def SymTree.leaves : SymTree → List Symbol
  | .leaf sym => [sym]
  | .node l r => l.leaves ++ r.leaves

/-- The weighted depth sum of a tree whose root stands at depth `d` (R128). -/
def SymTree.cost (freq : Vector Count 256) : SymTree → (d : Nat) → Nat
  | .leaf sym, d => (freq[sym.toFin]).toNat * d
  | .node l r, d => l.cost freq (d + 1) + r.cost freq (d + 1)

/-- The sum over all symbols of count times length of the symbol's path (R128); absent symbols weigh nothing. -/
def weightedLength (freq : Vector Count 256) (paths : Symbol → List Bool) : Nat :=
  ((List.finRange 256).map fun i => (freq[i]).toNat * (paths (BitVec.ofNat 8 i.val)).length).sum

/-- `Encode(S)` (42_code_generator R149). -/
def State.encodeBits (s : State) (syms : List Symbol) : List Bool := syms.flatMap s.readCode

/-- `Pad(L)` (43_bit_packer R166). -/
def padLength (len : Nat) : Nat := (8 - len % 8) % 8

/-- `Unpack(u, p)` (44_bit_unpacker R174): all bits of every unit, the last one's low `p` bits dropped. -/
def unpackStream : List Byte → Nat → List Bool
  | [], _ => []
  | [u], p => unitBits u p
  | u :: v :: rest, p => unitBits u 0 ++ unpackStream (v :: rest) p

/-- What one COUNT per symbol of a list, in order, leaves; `none` where a step gives no next state. -/
def countAll : List Symbol → State → Option State
  | [], s => some s
  | sym :: rest, s =>
    match exec (.count sym) s with
    | .next t => countAll rest t
    | _ => none

/-! ## Sessions (48_composition R220 to R222), in which the document's testable properties (R223 to R229) are said -/

/-- What a finite sequence of commands leaves, one after another (70_reset R284); `none` where one gives no next
state. -/
def runAll : List Instr → State → Option State
  | [], s => some s
  | i :: rest, s =>
    match exec i s with
    | .next t => runAll rest t
    | _ => none

/-- The commands that count a sequence, build its tree and codes and encode it (48_composition R220, R223). -/
def countAndEncode (syms : List Symbol) : List Instr :=
  syms.map .count ++ [.build, .gen] ++ syms.map .enc

/-- The encode session of an input (48_composition R220). -/
def encodeSession (syms : List Symbol) : List Instr :=
  .clear :: countAndEncode syms ++ [.pflush, .rdcsr 0x07#8] ++
    (List.finRange 256).map fun sym => .rdfreq (BitVec.ofNat 8 sym.val)

/-- `UBYTES u, …` (30_encoding R95): UBYTE for all units but the last, ULAST for the last. -/
def ubytes : Byte → List Byte → List Instr
  | u, [] => [.ulast u]
  | u, v :: rest => .ubyte u :: ubytes v rest

/-- The decode session of packed units and a pad length (48_composition R221). -/
def decodeSession : List Byte → (padlen : BitVec 3) → List Instr
  | [], _ => [.dend]
  | u :: rest, padlen => .wrcsr 0x08#8 (padlen.setWidth 32) :: ubytes u rest

/-- Reloading a kept frequency table and rebuilding its tree (48_composition R222). -/
def reloadSession (freq : Vector Count 256) : List Instr :=
  .clear :: (List.finRange 256).filterMap (fun sym =>
    if freq[sym] = 0#32 then none else some (.wrfreq (BitVec.ofNat 8 sym.val) freq[sym])) ++ [.build]

/-- The causes a legal command may raise in a state that is not halted (60_exceptions R252). -/
def mayRaise (i : Instr) (s : State) : List Cause :=
  match i with
  | .nop | .srst | .rdcsr _ | .wrcsr _ _ | .clear | .wrfreq _ _ | .rdfreq _ | .build | .pbit _ | .pflush => []
  | .count _ => [.countOverflow]
  | .gen => [.noTree]
  | .rdclen _ | .rdcode _ _ | .enc _ => [.noCode]
  | .ubyte _ => if s.udc then [.noTree, .emptyTreeBit] else []
  | .ulast _ => if s.udc then [.noTree, .emptyTreeBit, .truncatedStream] else []
  | .dbit _ => [.noTree, .emptyTreeBit]
  | .dend => [.noTree, .truncatedStream]

/-- The invariant of every step. -/
structure State.Inv (s : State) : Prop where
  /-- TV = 1 means NODE, NLEAVES and ROOT hold the result of a BUILD executed on the current FREQ (10_state R31). -/
  tree : s.tv = true → ∃ old, s.tree = buildTree s.freq old
  /-- CV = 1 means CLEN and CODE hold the result of a GEN executed on the current tree (R32). -/
  codes : s.cv = true → genCodes s.tree = some s.codes
  /-- CV = 1 implies TV = 1 (R32). -/
  codesNeedTree : s.cv = true → s.tv = true
  /-- While TV = 1: CUR = ROOT if NLEAVES ≤ 1, else CUR is an internal node of the tree (R28). -/
  cursor : s.tv = true →
    (s.nleaves.val ≤ 1 → s.cur = s.root) ∧ (2 ≤ s.nleaves.val → 256 ≤ s.cur.val ∧ s.cur ≤ s.root)
  /-- PACC < 2^PN (R29). -/
  packer : s.pacc.toNat < 2 ^ s.pn.toNat
  /-- ERR.CAUSE is 0 or one of the six causes (60_exceptions R241). -/
  cause : s.errCause.toNat ≤ 6

end Sys2Proof.Machine
end

