-- ==== Sys2Proof/Certificates/Slice0/Obligations.lean ====
section
/-! DEFINITION. Certificates/Slice0/Obligations.lean: the statements about the CORE, from the numbered rules of spec/.
A state `s` of a statement is any state of the model; where only states that runs reach will do, the premise is
`s.Inv`. "Not halted" is `s.errCause = 0#4` (10_state R33). -/

open Sys2Proof Sys2Proof.Machine

/-! ## Encoding -/

/-- 30_encoding R96: the worked encodings both ways, and the seven illegal words decode to no command. -/
def Obligations.WorkedEncodings : Prop :=
  (∀ p ∈ [(Instr.nop, 0x000000000000#48), (.count 0x61#8, 0x116100000000#48),
      (.wrfreq 0x62#8 3#32, 0x126200000003#48), (.build, 0x200000000000#48),
      (.rdcode 0x61#8 0#3, 0x326100000000#48), (.rdcode 0x61#8 7#3, 0x326100000007#48),
      (.pbit true, 0x400100000000#48), (.ulast 0xE0#8, 0x51E000000000#48),
      (.wrcsr 0x08#8 5#32, 0x030800000005#48), (.rdcsr 0x02#8, 0x020200000000#48)],
    encode p.1 = p.2 ∧ (decode p.2).toOption = some p.1) ∧
  (∀ w ∈ [0x000000000001#48, 0x400200000000#48, 0x326100000008#48, 0x020A00000000#48, 0x030100000000#48,
      0x030000000004#48, 0x040000000000#48],
    (decode w).toOption = none)

/-- 30_encoding R80 to R86: decoding the word of a well-formed command gives the command back. -/
def Obligations.DecodeOfEncode : Prop :=
  ∀ i : Instr, i.wf = true → decode (encode i) = .ok i

/-- 30_encoding R86, R92: a word that decodes is the word of the command it decodes to, which is well formed. No bit
is ignored. -/
def Obligations.EncodeOfDecode : Prop :=
  ∀ (w : CmdWord) (i : Instr), decode w = .ok i → encode i = w ∧ i.wf = true

/-- 30_encoding R86: the legal words are exactly those that match a row of the table and pass the operand checks. -/
def Obligations.LegalWordsMatchTable : Prop :=
  ∀ w : CmdWord, (∃ i, decode w = .ok i) ↔
    (∃ r ∈ opcodeRows, w &&& r.mask = r.pattern) ∧
    (w.opc = 0x02#8 → w.a.toNat ≤ 0x09) ∧
    (w.opc = 0x03#8 → (w.a = 0x00#8 ∧ w.d.toNat ≤ 0x3) ∨ (w.a = 0x08#8 ∧ w.d.toNat ≤ 0x7)) ∧
    (w.opc = 0x12#8 → w.d.toNat < 2 ^ Config.cntw)

/-- 30_encoding R84: no word matches two rows of the table. -/
def Obligations.TableRowsExclusive : Prop :=
  ∀ (w : CmdWord) (r₁ r₂ : OpcodeRow), r₁ ∈ opcodeRows → r₂ ∈ opcodeRows →
    w &&& r₁.mask = r₁.pattern → w &&& r₂.mask = r₂.pattern → r₁ = r₂

/-! ## Steps, dispatch, halting -/

/-- 60_exceptions R245, 00_scope R16: a presented word that decodes is taken off the channel and its command run. The
channel as a list is log entry 3. -/
def Obligations.StepRunsDecodedCommand : Prop :=
  ∀ (s : State) (w : CmdWord) (rest : List HostInput) (i : Instr),
    s.input = .command w :: rest → decode w = .ok i → step s = exec i { s with input := rest }

/-- 70_reset R284, 60_exceptions R260: with nothing presented the CORE keeps its state (log entry 3). -/
def Obligations.IdleKeepsState : Prop :=
  ∀ s : State, s.input = [] → step s = .next s

/-- 30_encoding R91, 60_exceptions R245, R246: an illegal word raises cause 6 in a CORE that is not halted and changes no
other state. -/
def Obligations.IllegalWordFaults : Prop :=
  ∀ (s : State) (w : CmdWord) (rest : List HostInput),
    s.input = .command w :: rest → (∀ i, decode w ≠ .ok i) → s.errCause = 0#4 →
      step s = .next { s with
        input := rest, errCause := 6#4, errInfo := w.extractLsb' 32 8, errOpc := w.extractLsb' 40 8,
        rsp := s.rsp ++ [rspWord 6#4 0#32] }

/-- 60_exceptions R248: while halted, every word but SRST and a legal RDCSR answers STAT 15 and changes nothing. -/
def Obligations.HaltedCoreRefuses : Prop :=
  ∀ (s : State) (w : CmdWord) (rest : List HostInput),
    s.input = .command w :: rest → s.errCause ≠ 0#4 →
    (∀ i, decode w = .ok i → i ≠ .srst ∧ ∀ csr, i ≠ .rdcsr csr) →
      step s = .next { s with input := rest, rsp := s.rsp ++ [rspWord 15#4 0#32] }

/-- 60_exceptions R249, 10_state R37: while halted ERR never changes but by SRST or the reset input, which clear it. -/
def Obligations.HaltLeftOnlyByReset : Prop :=
  ∀ s t : State, s.errCause ≠ 0#4 → step s = .next t →
    (((∃ rest, s.input = .reset :: rest) ∨ ∃ w rest, s.input = .command w :: rest ∧ decode w = .ok .srst) ∧
        t.errCause = 0#4 ∧ t.errInfo = 0#8 ∧ t.errOpc = 0#8) ∨
      (t.errCause = s.errCause ∧ t.errInfo = s.errInfo ∧ t.errOpc = s.errOpc)

/-- 10_state R44: every command word gets exactly one response, whose RDATA is 0 when STAT is not. -/
def Obligations.OneResponsePerCommand : Prop :=
  ∀ (s t : State) (w : CmdWord) (rest : List HostInput),
    s.input = .command w :: rest → step s = .next t →
      ∃ stat rdata, t.rsp = s.rsp ++ [rspWord stat rdata] ∧ (stat ≠ 0#4 → rdata = 0#32)

/-- 10_state R48: no step, a reset included, removes or changes an element already appended to an output stream. -/
def Obligations.StreamsOnlyGrow : Prop :=
  ∀ s t : State, step s = .next t →
    s.outbyte <+: t.outbyte ∧ s.outsym <+: t.outsym ∧ s.outbit <+: t.outbit ∧ s.rsp <+: t.rsp

/-- 10_state R48: the streams are history. What a step does, what it appends included, does not depend on what they
hold. -/
def Obligations.StreamsNeverReadBack : Prop :=
  ∀ (s t : State) (outbyte : List Byte) (outsym : List Symbol) (outbit : List Bool) (rsp : List RspWord),
    step s = .next t →
      ∃ bytes syms bits responses,
        t.outbyte = s.outbyte ++ bytes ∧ t.outsym = s.outsym ++ syms ∧ t.outbit = s.outbit ++ bits ∧
        t.rsp = s.rsp ++ responses ∧
        step { s with outbyte := outbyte, outsym := outsym, outbit := outbit, rsp := rsp } = .next { t with
          outbyte := outbyte ++ bytes, outsym := outsym ++ syms, outbit := outbit ++ bits,
          rsp := rsp ++ responses }

/-- 60_exceptions R247: a command that faults leaves the state before it plus the ERR write and its response, but for
the TruncatedStream of ULAST, which leaves CUR and OUTSYM moved as well. -/
def Obligations.FaultsArePrecise : Prop :=
  ∀ (i : Instr) (s t : State), s.errCause = 0#4 → exec i s = .next t → t.errCause ≠ 0#4 →
    t = { s with
      cur := t.cur, outsym := t.outsym,
      errCause := t.errCause, errInfo := i.aField, errOpc := i.opc,
      rsp := s.rsp ++ [rspWord t.errCause 0#32] } ∧
    ((t.errCause ≠ 1#4 ∨ ∀ byte, i ≠ .ulast byte) → t.cur = s.cur ∧ t.outsym = s.outsym)

/-- 60_exceptions R252: which command can raise which fault. -/
def Obligations.FaultsPerCommand : Prop :=
  ∀ (i : Instr) (s t : State), i.wf = true → s.errCause = 0#4 → exec i s = .next t → t.errCause ≠ 0#4 →
    ∃ c ∈ mayRaise i s, t.errCause = c.code

/-- 10_state R20, the column "written by": a command leaves alone every register, table and stream that the column does
not give it. -/
def Obligations.WrittenByTable : Prop :=
  ∀ (i : Instr) (s t : State), s.errCause = 0#4 → exec i s = .next t → t.errCause = 0#4 →
    (match i with | .clear | .count _ | .wrfreq _ _ | .srst => True | _ => t.freq = s.freq) ∧
    (match i with
      | .build | .srst => True
      | _ => t.nodes = s.nodes ∧ t.nleaves = s.nleaves ∧ t.root = s.root) ∧
    (match i with | .gen | .srst => True | _ => t.clen = s.clen ∧ t.code = s.code) ∧
    (match i with | .build | .clear | .count _ | .wrfreq _ _ | .srst => True | _ => t.tv = s.tv) ∧
    (match i with | .gen | .build | .clear | .count _ | .wrfreq _ _ | .srst => True | _ => t.cv = s.cv) ∧
    (match i with | .build | .dbit _ | .ubyte _ | .ulast _ | .srst => True | _ => t.cur = s.cur) ∧
    (match i with | .enc _ | .pbit _ | .pflush | .srst => True | _ => t.pacc = s.pacc ∧ t.pn = s.pn) ∧
    (match i with | .pflush | .srst => True | _ => t.padlen = s.padlen) ∧
    (match i with | .wrcsr _ _ | .srst => True | _ => t.upad = s.upad ∧ t.epk = s.epk ∧ t.udc = s.udc) ∧
    (match i with | .enc _ | .pbit _ | .pflush => True | _ => t.outbyte = s.outbyte) ∧
    (match i with | .dbit _ | .dend | .ubyte _ | .ulast _ => True | _ => t.outsym = s.outsym) ∧
    (match i with | .enc _ | .ubyte _ | .ulast _ => True | _ => t.outbit = s.outbit) ∧
    (match i with | .srst => True | _ => t.errInfo = s.errInfo ∧ t.errOpc = s.errOpc) ∧
    t.input = s.input

/-! ## Reset and the invariant -/

/-- 10_state R49, R34: the state after reset, as its registers and as every CSR reads. -/
def Obligations.ResetStateReads : Prop :=
  State.reset.ResetValues ∧
    (∀ p ∈ [(0x00#8, 3#32), (0x01#8, 0#32), (0x02#8, 0#32), (0x03#8, 0#32), (0x04#8, 0#32), (0x05#8, 0#32),
        (0x06#8, 0#32), (0x07#8, 0#32), (0x08#8, 0#32), (0x09#8, 0#32)],
      exec (.rdcsr p.1) State.reset = .next { State.reset with rsp := [rspWord 0#4 p.2] })

/-- 70_reset R270 to R272: the reset input puts every register at its reset value, whether or not the CORE is halted,
touches no stream and answers nothing. -/
def Obligations.ResetInputResets : Prop :=
  ∀ (s : State) (rest : List HostInput), s.input = .reset :: rest →
    ∃ t, step s = .next t ∧ t.ResetValues ∧ t.outbyte = s.outbyte ∧ t.outsym = s.outsym ∧ t.outbit = s.outbit ∧
      t.rsp = s.rsp ∧ t.input = rest

/-- 46_system R202: SRST does the same from every state, halted ones included, and answers STAT 0. -/
def Obligations.SrstResets : Prop :=
  ∀ s : State, ∃ t, exec .srst s = .next t ∧ t.ResetValues ∧ t.outbyte = s.outbyte ∧ t.outsym = s.outsym ∧
    t.outbit = s.outbit ∧ t.rsp = s.rsp ++ [rspWord 0#4 0#32] ∧ t.input = s.input

/-- The invariant holds right after reset. -/
def Obligations.ResetMeetsInvariant : Prop := State.reset.Inv

/-- 10_state R28, R29, R31, R32, R37: every step keeps the invariant. -/
def Obligations.StepKeepsInvariant : Prop :=
  ∀ s t : State, s.Inv → step s = .next t → t.Inv

/-- 00_scope R16, 20_memory R78: from every state that meets the invariant the step, whatever it is, completes. That an
append to a stream never waits rests on log entry 10 (PRESUMED: every consumer accepts), and that a step with nothing
presented is an idle step on log entry 3 (DEDUCED). -/
def Obligations.StepAlwaysCompletes : Prop :=
  ∀ s : State, s.Inv → ∃ t, step s = .next t

/-! ## System commands -/

/-- 46_system R201: NOP changes nothing and completes; while halted it gets the Halted response. -/
def Obligations.NopChangesNothing : Prop :=
  ∀ s : State,
    (s.errCause = 0#4 → exec .nop s = .next { s with rsp := s.rsp ++ [rspWord 0#4 0#32] }) ∧
    (s.errCause ≠ 0#4 → exec .nop s = .next { s with rsp := s.rsp ++ [rspWord 15#4 0#32] })

/-- 46_system R203, 10_state R34 to R39: what RDCSR answers for each of the ten registers, with no side effect and
while halted too; any other number is an illegal command. -/
def Obligations.RdcsrAnswersViews : Prop :=
  ∀ s : State,
    (∀ p ∈ [(0x00#8, s.epk.toNat + 2 * s.udc.toNat),
        (0x01#8, s.tv.toNat + 2 * s.cv.toNat + 4 * (s.errCause != 0#4).toNat + 16 * s.pn.toNat),
        (0x02#8, s.errCause.toNat + 256 * s.errInfo.toNat + 65536 * s.errOpc.toNat),
        (0x03#8, s.nleaves.val), (0x04#8, s.root.val),
        (0x05#8, if s.tv = true ∧ s.nleaves ≠ 0 then (s.readNode s.root).weight.toNat % 2 ^ 32 else 0),
        (0x06#8, if s.tv = true ∧ s.nleaves ≠ 0 then (s.readNode s.root).weight.toNat / 2 ^ 32 else 0),
        (0x07#8, s.padlen.toNat), (0x08#8, s.upad.toNat), (0x09#8, s.cur.val)],
      exec (.rdcsr p.1) s = .next { s with rsp := s.rsp ++ [rspWord 0#4 (BitVec.ofNat 32 p.2)] }) ∧
    (∀ csr : BitVec 8, 0x09 < csr.toNat →
      (s.errCause = 0#4 →
        exec (.rdcsr csr) s = .next { s with
          errCause := 6#4, errInfo := csr, errOpc := 0x02#8, rsp := s.rsp ++ [rspWord 6#4 0#32] }) ∧
      (s.errCause ≠ 0#4 → exec (.rdcsr csr) s = .next { s with rsp := s.rsp ++ [rspWord 15#4 0#32] }))

/-- 46_system R204: the two writable registers; any other CSR and any data outside the range is an illegal command that
writes nothing; while halted WRCSR is refused. -/
def Obligations.WrcsrWritesControl : Prop :=
  ∀ (s : State) (csr : BitVec 8) (data : BitVec 32),
    (s.errCause ≠ 0#4 → exec (.wrcsr csr data) s = .next { s with rsp := s.rsp ++ [rspWord 15#4 0#32] }) ∧
    (s.errCause = 0#4 → csr = 0x00#8 → data.toNat ≤ 3 →
      exec (.wrcsr csr data) s = .next { s with
        epk := decide (data.toNat % 2 = 1), udc := decide (data.toNat / 2 = 1),
        rsp := s.rsp ++ [rspWord 0#4 0#32] }) ∧
    (s.errCause = 0#4 → csr = 0x08#8 → data.toNat ≤ 7 →
      exec (.wrcsr csr data) s = .next { s with
        upad := BitVec.ofNat 3 data.toNat, rsp := s.rsp ++ [rspWord 0#4 0#32] }) ∧
    (s.errCause = 0#4 → ¬ (csr = 0x00#8 ∧ data.toNat ≤ 3) → ¬ (csr = 0x08#8 ∧ data.toNat ≤ 7) →
      exec (.wrcsr csr data) s = .next { s with
        errCause := 6#4, errInfo := csr, errOpc := 0x03#8, rsp := s.rsp ++ [rspWord 6#4 0#32] })

/-! ## The frequency counter -/

/-- 40_frequency_counter R102. -/
def Obligations.ClearEmptiesTable : Prop :=
  ∀ s : State, s.errCause = 0#4 →
    ∃ t, exec .clear s = .next t ∧ (∀ sym, t.readFreq sym = 0#32) ∧
      t = { s with freq := t.freq, tv := false, cv := false, rsp := s.rsp ++ [rspWord 0#4 0#32] }

/-- 40_frequency_counter R103: one more, TV and CV cleared; on a full counter CountOverflow and no other change. -/
def Obligations.CountTalliesOrOverflows : Prop :=
  ∀ (s : State) (sym : Symbol), s.errCause = 0#4 →
    ((s.readFreq sym).toNat ≠ 2 ^ 32 - 1 →
      ∃ t, exec (.count sym) s = .next t ∧ (t.readFreq sym).toNat = (s.readFreq sym).toNat + 1 ∧
        (∀ sym', sym' ≠ sym → t.readFreq sym' = s.readFreq sym') ∧
        t = { s with freq := t.freq, tv := false, cv := false, rsp := s.rsp ++ [rspWord 0#4 0#32] }) ∧
    ((s.readFreq sym).toNat = 2 ^ 32 - 1 →
      exec (.count sym) s = .next { s with
        errCause := 2#4, errInfo := sym, errOpc := 0x11#8, rsp := s.rsp ++ [rspWord 2#4 0#32] })

/-- 40_frequency_counter R107. -/
def Obligations.WrfreqLoadsEntry : Prop :=
  ∀ (s : State) (sym : Symbol) (cnt : Count), s.errCause = 0#4 →
    ∃ t, exec (.wrfreq sym cnt) s = .next t ∧ t.readFreq sym = cnt ∧
      (∀ sym', sym' ≠ sym → t.readFreq sym' = s.readFreq sym') ∧
      t = { s with freq := t.freq, tv := false, cv := false, rsp := s.rsp ++ [rspWord 0#4 0#32] }

/-- 40_frequency_counter R106. -/
def Obligations.RdfreqAnswersCount : Prop :=
  ∀ (s : State) (sym : Symbol), s.errCause = 0#4 →
    exec (.rdfreq sym) s = .next { s with rsp := s.rsp ++ [rspWord 0#4 (s.readFreq sym)] }

/-- 10_state R23, 40_frequency_counter R103: one COUNT per element of a sequence adds to every symbol's count the
number of its occurrences, and to the sum of counts the length, as long as no counter is filled past its maximum. -/
def Obligations.CountsTallySequence : Prop :=
  ∀ (S : List Symbol) (s : State), s.errCause = 0#4 →
    (∀ sym, (s.readFreq sym).toNat + S.count sym ≤ 2 ^ 32 - 1) →
      ∃ t, countAll S s = some t ∧ t.errCause = 0#4 ∧
        (∀ sym, (t.readFreq sym).toNat = (s.readFreq sym).toNat + S.count sym) ∧
        countSum t.freq = countSum s.freq + S.length

/-- 40_frequency_counter R108: the order of COUNT commands does not matter. -/
def Obligations.CountOrderIndependent : Prop :=
  ∀ (S S' : List Symbol) (s t t' : State), s.errCause = 0#4 → S.Perm S' →
    countAll S s = some t → countAll S' s = some t' → t.errCause = 0#4 → t'.errCause = 0#4 → t.freq = t'.freq

/-! ## The tree builder -/

/-- 41_tree_builder R121: BUILD completes from every state that is not halted and writes NODE, NLEAVES, ROOT, CUR, TV
and CV and nothing else. -/
def Obligations.BuildCompletes : Prop :=
  ∀ s : State, s.errCause = 0#4 →
    ∃ t, exec .build s = .next t ∧
      t = { s with
        nodes := t.nodes, nleaves := t.nleaves, root := t.root, cur := t.root, tv := true, cv := false,
        rsp := s.rsp ++ [rspWord 0#4 0#32] }

/-- 41_tree_builder R121, R122, R125: the leaf records, the flags and the cursor, and the three outcomes by the number
of present symbols. Two clauses rest on log entry 5 (DEDUCED; 93 U5 lets a model hold any value there): that leaf records
hold children 0, and that the internal records above ROOT are kept. -/
def Obligations.BuildOutcomes : Prop :=
  ∀ s t : State, s.errCause = 0#4 → exec .build s = .next t →
    t.tv = true ∧ t.cv = false ∧ t.cur = t.root ∧ t.nleaves.val = presentCount s.freq ∧
    (∀ (sym : Symbol) (i : NodeIdx), i.val = sym.toNat →
      (t.nodes[i]).weight.toNat = (s.readFreq sym).toNat ∧ (t.nodes[i]).left = 0 ∧ (t.nodes[i]).right = 0) ∧
    (presentCount s.freq = 0 → t.root = 0) ∧
    (presentCount s.freq = 1 → ∃ sym : Symbol, Present s.freq sym ∧ t.root.val = sym.toNat) ∧
    (2 ≤ presentCount s.freq → t.root.val = 256 + presentCount s.freq - 2) ∧
    (∀ i : NodeIdx, 256 ≤ i.val → t.root < i → t.nodes[i] = s.nodes[i])

/-- 41_tree_builder R121, R123, R124, R129: the `k`-th internal node joins the two least of the nodes then live, the
least on the left, and its weight is their sum, without overflow. -/
def Obligations.BuildMergesTwoLeast : Prop :=
  ∀ (s t : State) (k : Nat) (p : NodeIdx), s.errCause = 0#4 → exec .build s = .next t →
    k + 2 ≤ t.nleaves.val → p.val = 256 + k →
      LiveBefore s.freq t.nodes k (t.nodes[p]).left ∧ LiveBefore s.freq t.nodes k (t.nodes[p]).right ∧
      (t.nodes[p]).left ≠ (t.nodes[p]).right ∧
      (∀ j, LiveBefore s.freq t.nodes k j → j ≠ (t.nodes[p]).left → Precedes t.nodes (t.nodes[p]).left j) ∧
      (∀ j, LiveBefore s.freq t.nodes k j → j ≠ (t.nodes[p]).left → j ≠ (t.nodes[p]).right →
        Precedes t.nodes (t.nodes[p]).right j) ∧
      (t.nodes[p]).weight.toNat =
        (t.nodes[(t.nodes[p]).left]).weight.toNat + (t.nodes[(t.nodes[p]).right]).weight.toNat

/-- 10_state R26 items 1 to 3, 41_tree_builder R126: with two leaves or more the result is a strict binary tree: every
internal node has two children, tree nodes of smaller index, every node but ROOT exactly one parent, and ROOT none. -/
def Obligations.BuildGivesStrictBinaryTree : Prop :=
  ∀ s t : State, s.errCause = 0#4 → exec .build s = .next t → 2 ≤ t.nleaves.val →
    (∀ p : NodeIdx, 256 ≤ p.val → p ≤ t.root →
      (t.nodes[p]).left < p ∧ (t.nodes[p]).right < p ∧ (t.nodes[p]).left ≠ (t.nodes[p]).right ∧
      InTree s.freq t.tree (t.nodes[p]).left ∧ InTree s.freq t.tree (t.nodes[p]).right) ∧
    (∀ i : NodeIdx, InTree s.freq t.tree i → i ≠ t.root → ∃! p, ChildOf t.tree i p) ∧
    (∀ p, ¬ ChildOf t.tree t.root p)

/-- 41_tree_builder R126: the leaves that a path from ROOT reaches are exactly the present symbols'. -/
def Obligations.ReachableLeavesArePresent : Prop :=
  ∀ s t : State, s.errCause = 0#4 → exec .build s = .next t → 1 ≤ t.nleaves.val →
    ∀ (sym : Symbol) (i : NodeIdx), i.val = sym.toNat →
      ((∃ path, Reaches t.nodes t.root path i) ↔ Present s.freq sym)

/-- 10_state R26 items 4 and 5, R39: the root weighs the sum of all counts, and every weight in the tree is at least
1. -/
def Obligations.RootWeighsAllCounts : Prop :=
  ∀ s t : State, s.errCause = 0#4 → exec .build s = .next t → 1 ≤ t.nleaves.val →
    (t.nodes[t.root]).weight.toNat = countSum s.freq ∧
    ∀ i : NodeIdx, InTree s.freq t.tree i → 1 ≤ (t.nodes[i]).weight.toNat

/-- 41_tree_builder R127: BUILD is a function of FREQ alone. -/
def Obligations.BuildDependsOnFreqAlone : Prop :=
  ∀ s s' t t' : State, s.errCause = 0#4 → s'.errCause = 0#4 → s.freq = s'.freq →
    exec .build s = .next t → exec .build s' = .next t' →
      t.nleaves = t'.nleaves ∧ t.root = t'.root ∧
      ∀ i : NodeIdx, i.val < 256 ∨ i ≤ t.root → t.nodes[i] = t'.nodes[i]

/-- 41_tree_builder R128: among all strict binary trees with the present symbols as leaves, BUILD's has the least sum
of count times depth. -/
def Obligations.BuildIsOptimal : Prop :=
  ∀ (s t : State) (paths : Symbol → List Bool) (other : SymTree), s.errCause = 0#4 → exec .build s = .next t →
    (∀ (sym : Symbol) (i : NodeIdx), Present s.freq sym → i.val = sym.toNat →
      Reaches t.nodes t.root (paths sym) i) →
    other.leaves.Nodup → (∀ sym, sym ∈ other.leaves ↔ Present s.freq sym) →
      weightedLength s.freq paths ≤ other.cost s.freq 0

/-! ## The code generator and the encoder -/

/-- 42_code_generator R141: NoTree while TV = 0; else GEN completes and writes CLEN, CODE and CV and nothing else. -/
def Obligations.GenCompletesOrNoTree : Prop :=
  ∀ s : State, s.errCause = 0#4 →
    (s.tv = false →
      exec .gen s = .next { s with
        errCause := 3#4, errInfo := 0#8, errOpc := 0x30#8, rsp := s.rsp ++ [rspWord 3#4 0#32] }) ∧
    (s.Inv → s.tv = true →
      ∃ t, exec .gen s = .next t ∧
        t = { s with clen := t.clen, code := t.code, cv := true, rsp := s.rsp ++ [rspWord 0#4 0#32] })

/-- 42_code_generator R142, R143: after GEN an absent symbol has no code; in a single-leaf tree the one symbol's code is
`1`; in a normal tree a code is the path from ROOT to its symbol's leaf. -/
def Obligations.GenCodesArePaths : Prop :=
  ∀ s t : State, s.Inv → s.errCause = 0#4 → s.tv = true → exec .gen s = .next t →
    ∀ sym : Symbol,
      (t.readCode sym).length = (t.readClen sym).toNat ∧
      (¬ Present s.freq sym → t.readCode sym = []) ∧
      (Present s.freq sym → s.nleaves.val = 1 → t.readCode sym = [true]) ∧
      (2 ≤ s.nleaves.val → t.readCode sym ≠ [] →
        ∃ i : NodeIdx, i.val = sym.toNat ∧ Reaches s.nodes s.root (t.readCode sym) i)

/-- 42_code_generator R142: after GEN every present symbol has a code. -/
def Obligations.PresentSymbolsGetCodes : Prop :=
  ∀ s t : State, s.Inv → s.errCause = 0#4 → s.tv = true → exec .gen s = .next t →
    ∀ sym : Symbol, Present s.freq sym → t.readCode sym ≠ []

/-- 42_code_generator R144: whenever CV = 1, no present symbol's code is an initial segment of another's. -/
def Obligations.CodesArePrefixFree : Prop :=
  ∀ s : State, s.Inv → s.cv = true →
    ∀ a b : Symbol, Present s.freq a → Present s.freq b → a ≠ b → ¬ s.readCode a <+: s.readCode b

/-- 42_code_generator R145. -/
def Obligations.RdclenAnswersLength : Prop :=
  ∀ (s : State) (sym : Symbol), s.errCause = 0#4 →
    (s.cv = true →
      exec (.rdclen sym) s = .next { s with
        rsp := s.rsp ++ [rspWord 0#4 (BitVec.ofNat 32 (s.readClen sym).toNat)] }) ∧
    (s.cv = false →
      exec (.rdclen sym) s = .next { s with
        errCause := 4#4, errInfo := sym, errOpc := 0x31#8, rsp := s.rsp ++ [rspWord 4#4 0#32] })

/-- 42_code_generator R146: RDATA bit 31 − (j mod 32) of word j div 32 is code bit j, and 0 beyond the code. -/
def Obligations.RdcodeAnswersBits : Prop :=
  ∀ (s : State) (sym : Symbol) (w : BitVec 3), s.errCause = 0#4 →
    (s.cv = true →
      ∃ v, exec (.rdcode sym w) s = .next { s with rsp := s.rsp ++ [rspWord 0#4 v] } ∧
        ∀ j, j < 32 → v.getLsbD (31 - j) = (s.readCode sym).getD (32 * w.toNat + j) false) ∧
    (s.cv = false →
      exec (.rdcode sym w) s = .next { s with
        errCause := 4#4, errInfo := sym, errOpc := 0x32#8, rsp := s.rsp ++ [rspWord 4#4 0#32] })

/-- 42_code_generator R147, R148: the code's bits, first bit first, to OUTBIT or to the packer by CTRL.EPK; NoCode when
CV = 0 or the symbol has no code. -/
def Obligations.EncEmitsCode : Prop :=
  ∀ (s : State) (sym : Symbol), s.errCause = 0#4 →
    (s.cv = false ∨ s.readClen sym = 0#8 →
      exec (.enc sym) s = .next { s with
        errCause := 4#4, errInfo := sym, errOpc := 0x33#8, rsp := s.rsp ++ [rspWord 4#4 0#32] }) ∧
    (s.cv = true → s.readClen sym ≠ 0#8 → s.epk = false →
      exec (.enc sym) s = .next { s with
        outbit := s.outbit ++ s.readCode sym, rsp := s.rsp ++ [rspWord 0#4 0#32] }) ∧
    (s.cv = true → s.readClen sym ≠ 0#8 → s.epk = true →
      exec (.enc sym) s = .next { s with
        pacc := ((s.readCode sym).foldl packBit s).pacc, pn := ((s.readCode sym).foldl packBit s).pn,
        outbyte := ((s.readCode sym).foldl packBit s).outbyte, rsp := s.rsp ++ [rspWord 0#4 0#32] })

/-! ## The bit packer and unpacker -/

/-- 43_bit_packer R161, R162. -/
def Obligations.PbitShiftsIn : Prop :=
  ∀ (s : State) (b : Bool), s.errCause = 0#4 →
    (s.pn.toNat ≠ 7 →
      exec (.pbit b) s = .next { s with
        pacc := BitVec.ofNat 8 (2 * s.pacc.toNat + b.toNat), pn := BitVec.ofNat 3 (s.pn.toNat + 1),
        rsp := s.rsp ++ [rspWord 0#4 0#32] }) ∧
    (s.pn.toNat = 7 →
      exec (.pbit b) s = .next { s with
        outbyte := s.outbyte ++ [BitVec.ofNat 8 (2 * s.pacc.toNat + b.toNat)], pacc := 0#8, pn := 0#3,
        rsp := s.rsp ++ [rspWord 0#4 0#32] })

/-- 43_bit_packer R163. -/
def Obligations.PflushPadsAndRecords : Prop :=
  ∀ s : State, s.errCause = 0#4 →
    (s.pn.toNat ≠ 0 →
      exec .pflush s = .next { s with
        outbyte := s.outbyte ++ [BitVec.ofNat 8 (s.pacc.toNat * 2 ^ (8 - s.pn.toNat))],
        padlen := BitVec.ofNat 3 (8 - s.pn.toNat), pacc := 0#8, pn := 0#3,
        rsp := s.rsp ++ [rspWord 0#4 0#32] }) ∧
    (s.pn.toNat = 0 →
      exec .pflush s = .next { s with
        padlen := 0#3, pacc := 0#8, pn := 0#3, rsp := s.rsp ++ [rspWord 0#4 0#32] })

/-- 43_bit_packer R166: from PN = 0, a bit sequence of length L and a PFLUSH append exactly `Pack(q)` and leave PADLEN =
`Pad(L)`. -/
def Obligations.PackerAppendsPack : Prop :=
  ∀ (s : State) (q : List Bool), s.errCause = 0#4 → s.pn = 0#3 →
    ∃ units : List Byte,
      exec .pflush (q.foldl packBit s) = .next { s with
        outbyte := s.outbyte ++ units, padlen := BitVec.ofNat 3 (padLength q.length), pacc := 0#8, pn := 0#3,
        rsp := s.rsp ++ [rspWord 0#4 0#32] } ∧
      8 * units.length = q.length + padLength q.length ∧
      ∀ m i (h : m < units.length), i < 8 → (units[m]).getLsbD (7 - i) = q.getD (8 * m + i) false

/-- 44_bit_unpacker R175: packing and unpacking with the recorded pad length gives the bit sequence back; another pad
length gives a sequence longer or shorter by the difference. -/
def Obligations.UnpackInvertsPack : Prop :=
  ∀ (s t : State) (q : List Bool), s.errCause = 0#4 → s.pn = 0#3 → s.outbyte = [] →
    exec .pflush (q.foldl packBit s) = .next t →
      unpackStream t.outbyte t.padlen.toNat = q ∧
      ∀ p, p ≤ 7 → q ≠ [] → (unpackStream t.outbyte p).length + p = q.length + padLength q.length

/-- 44_bit_unpacker R172, R171. -/
def Obligations.UbyteDeliversEightBits : Prop :=
  ∀ (s : State) (byte : Byte) (bits : List Bool), s.errCause = 0#4 →
    bits = [byte.getLsbD 7, byte.getLsbD 6, byte.getLsbD 5, byte.getLsbD 4, byte.getLsbD 3, byte.getLsbD 2,
      byte.getLsbD 1, byte.getLsbD 0] →
    (s.udc = false →
      exec (.ubyte byte) s = .next { s with outbit := s.outbit ++ bits, rsp := s.rsp ++ [rspWord 0#4 0#32] }) ∧
    (s.udc = true → s.tv = false →
      exec (.ubyte byte) s = .next { s with
        errCause := 3#4, errInfo := byte, errOpc := 0x50#8, rsp := s.rsp ++ [rspWord 3#4 0#32] }) ∧
    (s.udc = true → s.tv = true → s.nleaves = 0 →
      exec (.ubyte byte) s = .next { s with
        errCause := 5#4, errInfo := byte, errOpc := 0x50#8, rsp := s.rsp ++ [rspWord 5#4 0#32] }) ∧
    (s.udc = true → s.tv = true → s.nleaves ≠ 0 →
      exec (.ubyte byte) s = .next { s with
        cur := (bits.foldl decBit s).cur, outsym := (bits.foldl decBit s).outsym,
        rsp := s.rsp ++ [rspWord 0#4 0#32] })

/-- 44_bit_unpacker R173, R171; 45_decoder R184: the data bits 7 down to UPAD, then the end of the decoder's stream. -/
def Obligations.UlastStripsPadAndEnds : Prop :=
  ∀ (s : State) (byte : Byte) (bits : List Bool), s.errCause = 0#4 →
    bits = (List.range (8 - s.upad.toNat)).map (fun j => byte.getLsbD (7 - j)) →
    (s.udc = false →
      exec (.ulast byte) s = .next { s with outbit := s.outbit ++ bits, rsp := s.rsp ++ [rspWord 0#4 0#32] }) ∧
    (s.udc = true → s.tv = false →
      exec (.ulast byte) s = .next { s with
        errCause := 3#4, errInfo := byte, errOpc := 0x51#8, rsp := s.rsp ++ [rspWord 3#4 0#32] }) ∧
    (s.udc = true → s.tv = true → s.nleaves = 0 →
      exec (.ulast byte) s = .next { s with
        errCause := 5#4, errInfo := byte, errOpc := 0x51#8, rsp := s.rsp ++ [rspWord 5#4 0#32] }) ∧
    (s.udc = true → s.tv = true → s.nleaves = 1 →
      exec (.ulast byte) s = .next { s with
        outsym := s.outsym ++
          List.replicate (s.readNode s.root).weight.toNat (BitVec.ofNat 8 s.root.val),
        rsp := s.rsp ++ [rspWord 0#4 0#32] }) ∧
    (s.udc = true → s.tv = true → 2 ≤ s.nleaves.val → (bits.foldl decBit s).cur = s.root →
      exec (.ulast byte) s = .next { s with
        cur := s.root, outsym := (bits.foldl decBit s).outsym, rsp := s.rsp ++ [rspWord 0#4 0#32] }) ∧
    (s.udc = true → s.tv = true → 2 ≤ s.nleaves.val → (bits.foldl decBit s).cur ≠ s.root →
      exec (.ulast byte) s = .next { s with
        cur := (bits.foldl decBit s).cur, outsym := (bits.foldl decBit s).outsym,
        errCause := 1#4, errInfo := byte, errOpc := 0x51#8, rsp := s.rsp ++ [rspWord 1#4 0#32] })

/-! ## The decoder -/

/-- 45_decoder R181 to R183, R186. -/
def Obligations.DbitMovesCursor : Prop :=
  ∀ (s : State) (b : Bool) (child : NodeIdx), s.errCause = 0#4 →
    child = (if b then (s.readNode s.cur).right else (s.readNode s.cur).left) →
    (s.tv = false →
      exec (.dbit b) s = .next { s with
        errCause := 3#4, errInfo := BitVec.ofNat 8 b.toNat, errOpc := 0x60#8,
        rsp := s.rsp ++ [rspWord 3#4 0#32] }) ∧
    (s.tv = true → s.nleaves = 0 →
      exec (.dbit b) s = .next { s with
        errCause := 5#4, errInfo := BitVec.ofNat 8 b.toNat, errOpc := 0x60#8,
        rsp := s.rsp ++ [rspWord 5#4 0#32] }) ∧
    (s.tv = true → s.nleaves = 1 → exec (.dbit b) s = .next { s with rsp := s.rsp ++ [rspWord 0#4 0#32] }) ∧
    (s.tv = true → 2 ≤ s.nleaves.val → child.val < 256 →
      exec (.dbit b) s = .next { s with
        outsym := s.outsym ++ [BitVec.ofNat 8 child.val], cur := s.root, rsp := s.rsp ++ [rspWord 0#4 0#32] }) ∧
    (s.tv = true → 2 ≤ s.nleaves.val → 256 ≤ child.val →
      exec (.dbit b) s = .next { s with cur := child, rsp := s.rsp ++ [rspWord 0#4 0#32] })

/-- 45_decoder R184 to R187: the end of a bit sequence with no tree, the empty tree, a single leaf and a normal tree. -/
def Obligations.DendEndsStream : Prop :=
  ∀ s : State, s.errCause = 0#4 →
    (s.tv = false →
      exec .dend s = .next { s with
        errCause := 3#4, errInfo := 0#8, errOpc := 0x61#8, rsp := s.rsp ++ [rspWord 3#4 0#32] }) ∧
    (s.tv = true → s.nleaves = 0 → exec .dend s = .next { s with rsp := s.rsp ++ [rspWord 0#4 0#32] }) ∧
    (s.tv = true → s.nleaves = 1 →
      exec .dend s = .next { s with
        outsym := s.outsym ++
          List.replicate (s.readNode s.root).weight.toNat (BitVec.ofNat 8 s.root.val),
        rsp := s.rsp ++ [rspWord 0#4 0#32] }) ∧
    (s.tv = true → 2 ≤ s.nleaves.val → s.cur = s.root →
      exec .dend s = .next { s with rsp := s.rsp ++ [rspWord 0#4 0#32] }) ∧
    (s.tv = true → 2 ≤ s.nleaves.val → s.cur ≠ s.root →
      exec .dend s = .next { s with
        errCause := 1#4, errInfo := 0#8, errOpc := 0x61#8, rsp := s.rsp ++ [rspWord 1#4 0#32] })

/-! ## The two paths together -/

/-- 48_composition R225, R223: with a normal tree and CUR = ROOT, the decoder fed the bits of `Encode(S)` appends S to
OUTSYM, is back at ROOT with nothing else changed, and the stream ends without fault. -/
def Obligations.DecodeInvertsEncode : Prop :=
  ∀ (s : State) (S : List Symbol), s.Inv → s.cv = true → 2 ≤ s.nleaves.val → s.cur = s.root →
    (∀ sym ∈ S, Present s.freq sym) →
      (s.encodeBits S).foldl decBit s = { s with outsym := s.outsym ++ S } ∧
      decEnd ((s.encodeBits S).foldl decBit s) = .done { s with outsym := s.outsym ++ S } 0#32

/-- 45_decoder R186, 48_composition R225: with a single-leaf tree every bit sequence is accepted and ignored, and the
end of the sequence appends the one symbol as often as FREQ counts it. -/
def Obligations.SingleLeafDecodesRun : Prop :=
  ∀ (s : State) (bits : List Bool), s.Inv → s.tv = true → s.nleaves = 1 →
    ∃ sym : Symbol, Present s.freq sym ∧ bits.foldl decBit s = s ∧
      decEnd s = .done { s with outsym := s.outsym ++ List.replicate (s.readFreq sym).toNat sym } 0#32

/-- 48_composition R226: with an empty table and an empty packer, BUILD, GEN, PFLUSH and DEND give no codes and no
output, and every response has STAT 0. -/
def Obligations.EmptyInputGivesEmptyOutput : Prop :=
  ∀ s : State, s.errCause = 0#4 → (∀ sym, s.readFreq sym = 0#32) → s.pn = 0#3 →
    ∃ t, runAll [.build, .gen, .pflush, .dend] s = some t ∧
      t.nleaves = 0 ∧ (∀ sym, t.readFreq sym = 0#32 ∧ t.readClen sym = 0#8 ∧ t.readCode sym = []) ∧
      t.padlen = 0#3 ∧ t.outbyte = s.outbyte ∧ t.outsym = s.outsym ∧ t.outbit = s.outbit ∧
      t.rsp = s.rsp ++ List.replicate 4 (rspWord 0#4 0#32)

/-- 48_composition R223: in a CORE whose table was empty, `ROUTE 0, 1`, the COUNTs of S, BUILD, GEN and the ENCs of S put
`Encode(S)` on OUTBIT, and the DBITs of it and DEND append exactly S to OUTSYM, without fault. It holds of the empty S
too. -/
def Obligations.DecodeSessionInvertsEncodeOnBits : Prop :=
  ∀ (s : State) (S : List Symbol), s.errCause = 0#4 → (∀ sym, s.readFreq sym = 0#32) →
    (∀ sym, S.count sym ≤ 2 ^ 32 - 1) →
      ∃ t u, runAll (.wrcsr 0x00#8 2#32 :: countAndEncode S) s = some t ∧ t.errCause = 0#4 ∧
        t.outbit = s.outbit ++ t.encodeBits S ∧
        runAll ((t.encodeBits S).map .dbit ++ [.dend]) t = some u ∧ u.errCause = 0#4 ∧
        u.outsym = s.outsym ++ S ∧ u.rsp.getLast? = some (rspWord 0#4 0#32)

/-- 48_composition R224, with R220 to R222: the encode session through the packer and the decode session on the units it
appended and the pad length it recorded append exactly S to OUTSYM, in the same CORE and in any other one that reloads the
table. -/
def Obligations.SessionsRoundTripThroughPacker : Prop :=
  ∀ (s other : State) (S : List Symbol), s.errCause = 0#4 → s.pn = 0#3 → s.epk = true → s.udc = true →
    other.errCause = 0#4 → other.udc = true → (∀ sym, S.count sym ≤ 2 ^ 32 - 1) →
      ∃ t u v units, runAll (encodeSession S) s = some t ∧ t.errCause = 0#4 ∧ t.outbyte = s.outbyte ++ units ∧
        runAll (decodeSession units t.padlen) t = some u ∧ u.errCause = 0#4 ∧ u.outsym = s.outsym ++ S ∧
        runAll (reloadSession t.freq ++ decodeSession units t.padlen) other = some v ∧ v.errCause = 0#4 ∧
        v.outsym = other.outsym ++ S

/-- 20_memory R76, 10_state R31, R32: after a step that changed FREQ no tree and no codes are valid, so that stale ones
are never used; and after a step that changed the tree no codes are. -/
def Obligations.StaleTablesAreMarked : Prop :=
  ∀ s t : State, step s = .next t →
    (t.freq ≠ s.freq → t.tv = false ∧ t.cv = false) ∧
    (t.nodes ≠ s.nodes ∨ t.nleaves ≠ s.nleaves ∨ t.root ≠ s.root → t.cv = false)
end

