-- ==== Sys2Proof/Laws/Decode.lean ====
section
/-! SUPPORT. Laws/Decode.lean: the fields of a command word, and that a decoded command passed its operand check. -/

namespace Sys2Proof

@[simp] theorem CmdWord.opc_ofFields (opc a : BitVec 8) (d : BitVec 32) :
    (CmdWord.ofFields opc a d).opc = opc := by
  apply BitVec.eq_of_getLsbD_eq
  intro i hi
  simp only [CmdWord.opc, CmdWord.ofFields, BitVec.getLsbD_extractLsb', BitVec.getLsbD_append]
  simp [hi, show ¬ 40 + i < 32 by omega, show ¬ 40 + i - 32 < 8 by omega, show 40 + i - 32 - 8 = i by omega]

@[simp] theorem CmdWord.a_ofFields (opc a : BitVec 8) (d : BitVec 32) :
    (CmdWord.ofFields opc a d).a = a := by
  apply BitVec.eq_of_getLsbD_eq
  intro i hi
  simp only [CmdWord.a, CmdWord.ofFields, BitVec.getLsbD_extractLsb', BitVec.getLsbD_append]
  simp [hi, show ¬ 32 + i < 32 by omega]

@[simp] theorem CmdWord.d_ofFields (opc a : BitVec 8) (d : BitVec 32) :
    (CmdWord.ofFields opc a d).d = d := by
  apply BitVec.eq_of_getLsbD_eq
  intro i hi
  simp only [CmdWord.d, CmdWord.ofFields, BitVec.getLsbD_extractLsb', BitVec.getLsbD_append]
  simp [hi]

/-- A word is the word of its fields (R80): no bit lies outside them. -/
theorem CmdWord.ofFields_fields (w : CmdWord) : CmdWord.ofFields w.opc w.a w.d = w := by
  apply BitVec.eq_of_getLsbD_eq
  intro i hi
  simp only [CmdWord.opc, CmdWord.a, CmdWord.d, CmdWord.ofFields, BitVec.getLsbD_append, BitVec.getLsbD_extractLsb']
  by_cases h1 : i < 32
  · simp [h1]
  · by_cases h2 : i - 32 < 8
    · simp [h1, h2, show 32 + (i - 32) = i by omega]
    · simp [h1, h2, show i - 32 - 8 < 8 by omega, show 40 + (i - 32 - 8) = i by omega]

/-- What a successful decoding says: the row's command, whose operand values are legal (R86). -/
theorem decode_ok {w : CmdWord} {i : Instr} (h : decode w = .ok i) :
    decodeRow w.opc w.a w.d = .ok i ∧ i.operandDefect = none := by
  unfold decode at h
  split at h
  · cases h
  · next j hj =>
    split at h
    · cases h
    · next hd =>
      cases h
      exact ⟨hj, hd⟩

/-- Every command that decoding answers is well formed. -/
theorem decode_wf {w : CmdWord} {i : Instr} (h : decode w = .ok i) : i.wf = true := by
  simp [Instr.wf, (decode_ok h).2]

/-- Masking a command word masks its fields. -/
theorem CmdWord.ofFields_and (o a o' a' : BitVec 8) (d d' : BitVec 32) :
    CmdWord.ofFields o a d &&& CmdWord.ofFields o' a' d' =
      CmdWord.ofFields (o &&& o') (a &&& a') (d &&& d') := by
  apply BitVec.eq_of_getLsbD_eq
  intro i hi
  simp only [CmdWord.ofFields, BitVec.getLsbD_and, BitVec.getLsbD_append]
  split <;> [rfl; skip]
  split <;> rfl

end Sys2Proof
end

