-- ==== Sys2Proof/Laws/State.lean ====
section
/-! SUPPORT. Laws/State.lean: for every update of the state and every field, what the field is after it. -/

namespace Sys2Proof.Machine

variable (s : State)

@[simp] theorem State.invalidate_freq : s.invalidate.freq = s.freq := rfl
@[simp] theorem State.invalidate_nodes : s.invalidate.nodes = s.nodes := rfl
@[simp] theorem State.invalidate_clen : s.invalidate.clen = s.clen := rfl
@[simp] theorem State.invalidate_code : s.invalidate.code = s.code := rfl
@[simp] theorem State.invalidate_tv : s.invalidate.tv = false := rfl
@[simp] theorem State.invalidate_cv : s.invalidate.cv = false := rfl
@[simp] theorem State.invalidate_nleaves : s.invalidate.nleaves = s.nleaves := rfl
@[simp] theorem State.invalidate_root : s.invalidate.root = s.root := rfl
@[simp] theorem State.invalidate_cur : s.invalidate.cur = s.cur := rfl
@[simp] theorem State.invalidate_pacc : s.invalidate.pacc = s.pacc := rfl
@[simp] theorem State.invalidate_pn : s.invalidate.pn = s.pn := rfl
@[simp] theorem State.invalidate_padlen : s.invalidate.padlen = s.padlen := rfl
@[simp] theorem State.invalidate_upad : s.invalidate.upad = s.upad := rfl
@[simp] theorem State.invalidate_epk : s.invalidate.epk = s.epk := rfl
@[simp] theorem State.invalidate_udc : s.invalidate.udc = s.udc := rfl
@[simp] theorem State.invalidate_errCause : s.invalidate.errCause = s.errCause := rfl
@[simp] theorem State.invalidate_errInfo : s.invalidate.errInfo = s.errInfo := rfl
@[simp] theorem State.invalidate_errOpc : s.invalidate.errOpc = s.errOpc := rfl
@[simp] theorem State.invalidate_outbyte : s.invalidate.outbyte = s.outbyte := rfl
@[simp] theorem State.invalidate_outsym : s.invalidate.outsym = s.outsym := rfl
@[simp] theorem State.invalidate_outbit : s.invalidate.outbit = s.outbit := rfl
@[simp] theorem State.invalidate_rsp : s.invalidate.rsp = s.rsp := rfl
@[simp] theorem State.invalidate_input : s.invalidate.input = s.input := rfl

@[simp] theorem State.treePublished_freq : s.treePublished.freq = s.freq := rfl
@[simp] theorem State.treePublished_nodes : s.treePublished.nodes = s.nodes := rfl
@[simp] theorem State.treePublished_clen : s.treePublished.clen = s.clen := rfl
@[simp] theorem State.treePublished_code : s.treePublished.code = s.code := rfl
@[simp] theorem State.treePublished_tv : s.treePublished.tv = true := rfl
@[simp] theorem State.treePublished_cv : s.treePublished.cv = false := rfl
@[simp] theorem State.treePublished_nleaves : s.treePublished.nleaves = s.nleaves := rfl
@[simp] theorem State.treePublished_root : s.treePublished.root = s.root := rfl
@[simp] theorem State.treePublished_cur : s.treePublished.cur = s.cur := rfl
@[simp] theorem State.treePublished_pacc : s.treePublished.pacc = s.pacc := rfl
@[simp] theorem State.treePublished_pn : s.treePublished.pn = s.pn := rfl
@[simp] theorem State.treePublished_padlen : s.treePublished.padlen = s.padlen := rfl
@[simp] theorem State.treePublished_upad : s.treePublished.upad = s.upad := rfl
@[simp] theorem State.treePublished_epk : s.treePublished.epk = s.epk := rfl
@[simp] theorem State.treePublished_udc : s.treePublished.udc = s.udc := rfl
@[simp] theorem State.treePublished_errCause : s.treePublished.errCause = s.errCause := rfl
@[simp] theorem State.treePublished_errInfo : s.treePublished.errInfo = s.errInfo := rfl
@[simp] theorem State.treePublished_errOpc : s.treePublished.errOpc = s.errOpc := rfl
@[simp] theorem State.treePublished_outbyte : s.treePublished.outbyte = s.outbyte := rfl
@[simp] theorem State.treePublished_outsym : s.treePublished.outsym = s.outsym := rfl
@[simp] theorem State.treePublished_outbit : s.treePublished.outbit = s.outbit := rfl
@[simp] theorem State.treePublished_rsp : s.treePublished.rsp = s.rsp := rfl
@[simp] theorem State.treePublished_input : s.treePublished.input = s.input := rfl

@[simp] theorem State.codesPublished_freq : s.codesPublished.freq = s.freq := rfl
@[simp] theorem State.codesPublished_nodes : s.codesPublished.nodes = s.nodes := rfl
@[simp] theorem State.codesPublished_clen : s.codesPublished.clen = s.clen := rfl
@[simp] theorem State.codesPublished_code : s.codesPublished.code = s.code := rfl
@[simp] theorem State.codesPublished_tv : s.codesPublished.tv = s.tv := rfl
@[simp] theorem State.codesPublished_cv : s.codesPublished.cv = true := rfl
@[simp] theorem State.codesPublished_nleaves : s.codesPublished.nleaves = s.nleaves := rfl
@[simp] theorem State.codesPublished_root : s.codesPublished.root = s.root := rfl
@[simp] theorem State.codesPublished_cur : s.codesPublished.cur = s.cur := rfl
@[simp] theorem State.codesPublished_pacc : s.codesPublished.pacc = s.pacc := rfl
@[simp] theorem State.codesPublished_pn : s.codesPublished.pn = s.pn := rfl
@[simp] theorem State.codesPublished_padlen : s.codesPublished.padlen = s.padlen := rfl
@[simp] theorem State.codesPublished_upad : s.codesPublished.upad = s.upad := rfl
@[simp] theorem State.codesPublished_epk : s.codesPublished.epk = s.epk := rfl
@[simp] theorem State.codesPublished_udc : s.codesPublished.udc = s.udc := rfl
@[simp] theorem State.codesPublished_errCause : s.codesPublished.errCause = s.errCause := rfl
@[simp] theorem State.codesPublished_errInfo : s.codesPublished.errInfo = s.errInfo := rfl
@[simp] theorem State.codesPublished_errOpc : s.codesPublished.errOpc = s.errOpc := rfl
@[simp] theorem State.codesPublished_outbyte : s.codesPublished.outbyte = s.outbyte := rfl
@[simp] theorem State.codesPublished_outsym : s.codesPublished.outsym = s.outsym := rfl
@[simp] theorem State.codesPublished_outbit : s.codesPublished.outbit = s.outbit := rfl
@[simp] theorem State.codesPublished_rsp : s.codesPublished.rsp = s.rsp := rfl
@[simp] theorem State.codesPublished_input : s.codesPublished.input = s.input := rfl

@[simp] theorem State.writeFreq_freq (sym : Symbol) (v : Count) : (s.writeFreq sym v).freq = s.freq.set sym.toNat v sym.isLt := rfl
@[simp] theorem State.writeFreq_nodes (sym : Symbol) (v : Count) : (s.writeFreq sym v).nodes = s.nodes := rfl
@[simp] theorem State.writeFreq_clen (sym : Symbol) (v : Count) : (s.writeFreq sym v).clen = s.clen := rfl
@[simp] theorem State.writeFreq_code (sym : Symbol) (v : Count) : (s.writeFreq sym v).code = s.code := rfl
@[simp] theorem State.writeFreq_tv (sym : Symbol) (v : Count) : (s.writeFreq sym v).tv = s.tv := rfl
@[simp] theorem State.writeFreq_cv (sym : Symbol) (v : Count) : (s.writeFreq sym v).cv = s.cv := rfl
@[simp] theorem State.writeFreq_nleaves (sym : Symbol) (v : Count) : (s.writeFreq sym v).nleaves = s.nleaves := rfl
@[simp] theorem State.writeFreq_root (sym : Symbol) (v : Count) : (s.writeFreq sym v).root = s.root := rfl
@[simp] theorem State.writeFreq_cur (sym : Symbol) (v : Count) : (s.writeFreq sym v).cur = s.cur := rfl
@[simp] theorem State.writeFreq_pacc (sym : Symbol) (v : Count) : (s.writeFreq sym v).pacc = s.pacc := rfl
@[simp] theorem State.writeFreq_pn (sym : Symbol) (v : Count) : (s.writeFreq sym v).pn = s.pn := rfl
@[simp] theorem State.writeFreq_padlen (sym : Symbol) (v : Count) : (s.writeFreq sym v).padlen = s.padlen := rfl
@[simp] theorem State.writeFreq_upad (sym : Symbol) (v : Count) : (s.writeFreq sym v).upad = s.upad := rfl
@[simp] theorem State.writeFreq_epk (sym : Symbol) (v : Count) : (s.writeFreq sym v).epk = s.epk := rfl
@[simp] theorem State.writeFreq_udc (sym : Symbol) (v : Count) : (s.writeFreq sym v).udc = s.udc := rfl
@[simp] theorem State.writeFreq_errCause (sym : Symbol) (v : Count) : (s.writeFreq sym v).errCause = s.errCause := rfl
@[simp] theorem State.writeFreq_errInfo (sym : Symbol) (v : Count) : (s.writeFreq sym v).errInfo = s.errInfo := rfl
@[simp] theorem State.writeFreq_errOpc (sym : Symbol) (v : Count) : (s.writeFreq sym v).errOpc = s.errOpc := rfl
@[simp] theorem State.writeFreq_outbyte (sym : Symbol) (v : Count) : (s.writeFreq sym v).outbyte = s.outbyte := rfl
@[simp] theorem State.writeFreq_outsym (sym : Symbol) (v : Count) : (s.writeFreq sym v).outsym = s.outsym := rfl
@[simp] theorem State.writeFreq_outbit (sym : Symbol) (v : Count) : (s.writeFreq sym v).outbit = s.outbit := rfl
@[simp] theorem State.writeFreq_rsp (sym : Symbol) (v : Count) : (s.writeFreq sym v).rsp = s.rsp := rfl
@[simp] theorem State.writeFreq_input (sym : Symbol) (v : Count) : (s.writeFreq sym v).input = s.input := rfl

@[simp] theorem State.emitByte_freq (v : Byte) : (s.emitByte v).freq = s.freq := rfl
@[simp] theorem State.emitByte_nodes (v : Byte) : (s.emitByte v).nodes = s.nodes := rfl
@[simp] theorem State.emitByte_clen (v : Byte) : (s.emitByte v).clen = s.clen := rfl
@[simp] theorem State.emitByte_code (v : Byte) : (s.emitByte v).code = s.code := rfl
@[simp] theorem State.emitByte_tv (v : Byte) : (s.emitByte v).tv = s.tv := rfl
@[simp] theorem State.emitByte_cv (v : Byte) : (s.emitByte v).cv = s.cv := rfl
@[simp] theorem State.emitByte_nleaves (v : Byte) : (s.emitByte v).nleaves = s.nleaves := rfl
@[simp] theorem State.emitByte_root (v : Byte) : (s.emitByte v).root = s.root := rfl
@[simp] theorem State.emitByte_cur (v : Byte) : (s.emitByte v).cur = s.cur := rfl
@[simp] theorem State.emitByte_pacc (v : Byte) : (s.emitByte v).pacc = s.pacc := rfl
@[simp] theorem State.emitByte_pn (v : Byte) : (s.emitByte v).pn = s.pn := rfl
@[simp] theorem State.emitByte_padlen (v : Byte) : (s.emitByte v).padlen = s.padlen := rfl
@[simp] theorem State.emitByte_upad (v : Byte) : (s.emitByte v).upad = s.upad := rfl
@[simp] theorem State.emitByte_epk (v : Byte) : (s.emitByte v).epk = s.epk := rfl
@[simp] theorem State.emitByte_udc (v : Byte) : (s.emitByte v).udc = s.udc := rfl
@[simp] theorem State.emitByte_errCause (v : Byte) : (s.emitByte v).errCause = s.errCause := rfl
@[simp] theorem State.emitByte_errInfo (v : Byte) : (s.emitByte v).errInfo = s.errInfo := rfl
@[simp] theorem State.emitByte_errOpc (v : Byte) : (s.emitByte v).errOpc = s.errOpc := rfl
@[simp] theorem State.emitByte_outbyte (v : Byte) : (s.emitByte v).outbyte = s.outbyte ++ [v] := rfl
@[simp] theorem State.emitByte_outsym (v : Byte) : (s.emitByte v).outsym = s.outsym := rfl
@[simp] theorem State.emitByte_outbit (v : Byte) : (s.emitByte v).outbit = s.outbit := rfl
@[simp] theorem State.emitByte_rsp (v : Byte) : (s.emitByte v).rsp = s.rsp := rfl
@[simp] theorem State.emitByte_input (v : Byte) : (s.emitByte v).input = s.input := rfl

@[simp] theorem State.emitSyms_freq (vs : List Symbol) : (s.emitSyms vs).freq = s.freq := rfl
@[simp] theorem State.emitSyms_nodes (vs : List Symbol) : (s.emitSyms vs).nodes = s.nodes := rfl
@[simp] theorem State.emitSyms_clen (vs : List Symbol) : (s.emitSyms vs).clen = s.clen := rfl
@[simp] theorem State.emitSyms_code (vs : List Symbol) : (s.emitSyms vs).code = s.code := rfl
@[simp] theorem State.emitSyms_tv (vs : List Symbol) : (s.emitSyms vs).tv = s.tv := rfl
@[simp] theorem State.emitSyms_cv (vs : List Symbol) : (s.emitSyms vs).cv = s.cv := rfl
@[simp] theorem State.emitSyms_nleaves (vs : List Symbol) : (s.emitSyms vs).nleaves = s.nleaves := rfl
@[simp] theorem State.emitSyms_root (vs : List Symbol) : (s.emitSyms vs).root = s.root := rfl
@[simp] theorem State.emitSyms_cur (vs : List Symbol) : (s.emitSyms vs).cur = s.cur := rfl
@[simp] theorem State.emitSyms_pacc (vs : List Symbol) : (s.emitSyms vs).pacc = s.pacc := rfl
@[simp] theorem State.emitSyms_pn (vs : List Symbol) : (s.emitSyms vs).pn = s.pn := rfl
@[simp] theorem State.emitSyms_padlen (vs : List Symbol) : (s.emitSyms vs).padlen = s.padlen := rfl
@[simp] theorem State.emitSyms_upad (vs : List Symbol) : (s.emitSyms vs).upad = s.upad := rfl
@[simp] theorem State.emitSyms_epk (vs : List Symbol) : (s.emitSyms vs).epk = s.epk := rfl
@[simp] theorem State.emitSyms_udc (vs : List Symbol) : (s.emitSyms vs).udc = s.udc := rfl
@[simp] theorem State.emitSyms_errCause (vs : List Symbol) : (s.emitSyms vs).errCause = s.errCause := rfl
@[simp] theorem State.emitSyms_errInfo (vs : List Symbol) : (s.emitSyms vs).errInfo = s.errInfo := rfl
@[simp] theorem State.emitSyms_errOpc (vs : List Symbol) : (s.emitSyms vs).errOpc = s.errOpc := rfl
@[simp] theorem State.emitSyms_outbyte (vs : List Symbol) : (s.emitSyms vs).outbyte = s.outbyte := rfl
@[simp] theorem State.emitSyms_outsym (vs : List Symbol) : (s.emitSyms vs).outsym = s.outsym ++ vs := rfl
@[simp] theorem State.emitSyms_outbit (vs : List Symbol) : (s.emitSyms vs).outbit = s.outbit := rfl
@[simp] theorem State.emitSyms_rsp (vs : List Symbol) : (s.emitSyms vs).rsp = s.rsp := rfl
@[simp] theorem State.emitSyms_input (vs : List Symbol) : (s.emitSyms vs).input = s.input := rfl

@[simp] theorem State.emitBit_freq (b : Bool) : (s.emitBit b).freq = s.freq := rfl
@[simp] theorem State.emitBit_nodes (b : Bool) : (s.emitBit b).nodes = s.nodes := rfl
@[simp] theorem State.emitBit_clen (b : Bool) : (s.emitBit b).clen = s.clen := rfl
@[simp] theorem State.emitBit_code (b : Bool) : (s.emitBit b).code = s.code := rfl
@[simp] theorem State.emitBit_tv (b : Bool) : (s.emitBit b).tv = s.tv := rfl
@[simp] theorem State.emitBit_cv (b : Bool) : (s.emitBit b).cv = s.cv := rfl
@[simp] theorem State.emitBit_nleaves (b : Bool) : (s.emitBit b).nleaves = s.nleaves := rfl
@[simp] theorem State.emitBit_root (b : Bool) : (s.emitBit b).root = s.root := rfl
@[simp] theorem State.emitBit_cur (b : Bool) : (s.emitBit b).cur = s.cur := rfl
@[simp] theorem State.emitBit_pacc (b : Bool) : (s.emitBit b).pacc = s.pacc := rfl
@[simp] theorem State.emitBit_pn (b : Bool) : (s.emitBit b).pn = s.pn := rfl
@[simp] theorem State.emitBit_padlen (b : Bool) : (s.emitBit b).padlen = s.padlen := rfl
@[simp] theorem State.emitBit_upad (b : Bool) : (s.emitBit b).upad = s.upad := rfl
@[simp] theorem State.emitBit_epk (b : Bool) : (s.emitBit b).epk = s.epk := rfl
@[simp] theorem State.emitBit_udc (b : Bool) : (s.emitBit b).udc = s.udc := rfl
@[simp] theorem State.emitBit_errCause (b : Bool) : (s.emitBit b).errCause = s.errCause := rfl
@[simp] theorem State.emitBit_errInfo (b : Bool) : (s.emitBit b).errInfo = s.errInfo := rfl
@[simp] theorem State.emitBit_errOpc (b : Bool) : (s.emitBit b).errOpc = s.errOpc := rfl
@[simp] theorem State.emitBit_outbyte (b : Bool) : (s.emitBit b).outbyte = s.outbyte := rfl
@[simp] theorem State.emitBit_outsym (b : Bool) : (s.emitBit b).outsym = s.outsym := rfl
@[simp] theorem State.emitBit_outbit (b : Bool) : (s.emitBit b).outbit = s.outbit ++ [b] := rfl
@[simp] theorem State.emitBit_rsp (b : Bool) : (s.emitBit b).rsp = s.rsp := rfl
@[simp] theorem State.emitBit_input (b : Bool) : (s.emitBit b).input = s.input := rfl

@[simp] theorem State.respond_freq (stat : BitVec 4) (rdata : BitVec 32) : (s.respond stat rdata).freq = s.freq := rfl
@[simp] theorem State.respond_nodes (stat : BitVec 4) (rdata : BitVec 32) : (s.respond stat rdata).nodes = s.nodes := rfl
@[simp] theorem State.respond_clen (stat : BitVec 4) (rdata : BitVec 32) : (s.respond stat rdata).clen = s.clen := rfl
@[simp] theorem State.respond_code (stat : BitVec 4) (rdata : BitVec 32) : (s.respond stat rdata).code = s.code := rfl
@[simp] theorem State.respond_tv (stat : BitVec 4) (rdata : BitVec 32) : (s.respond stat rdata).tv = s.tv := rfl
@[simp] theorem State.respond_cv (stat : BitVec 4) (rdata : BitVec 32) : (s.respond stat rdata).cv = s.cv := rfl
@[simp] theorem State.respond_nleaves (stat : BitVec 4) (rdata : BitVec 32) : (s.respond stat rdata).nleaves = s.nleaves := rfl
@[simp] theorem State.respond_root (stat : BitVec 4) (rdata : BitVec 32) : (s.respond stat rdata).root = s.root := rfl
@[simp] theorem State.respond_cur (stat : BitVec 4) (rdata : BitVec 32) : (s.respond stat rdata).cur = s.cur := rfl
@[simp] theorem State.respond_pacc (stat : BitVec 4) (rdata : BitVec 32) : (s.respond stat rdata).pacc = s.pacc := rfl
@[simp] theorem State.respond_pn (stat : BitVec 4) (rdata : BitVec 32) : (s.respond stat rdata).pn = s.pn := rfl
@[simp] theorem State.respond_padlen (stat : BitVec 4) (rdata : BitVec 32) : (s.respond stat rdata).padlen = s.padlen := rfl
@[simp] theorem State.respond_upad (stat : BitVec 4) (rdata : BitVec 32) : (s.respond stat rdata).upad = s.upad := rfl
@[simp] theorem State.respond_epk (stat : BitVec 4) (rdata : BitVec 32) : (s.respond stat rdata).epk = s.epk := rfl
@[simp] theorem State.respond_udc (stat : BitVec 4) (rdata : BitVec 32) : (s.respond stat rdata).udc = s.udc := rfl
@[simp] theorem State.respond_errCause (stat : BitVec 4) (rdata : BitVec 32) : (s.respond stat rdata).errCause = s.errCause := rfl
@[simp] theorem State.respond_errInfo (stat : BitVec 4) (rdata : BitVec 32) : (s.respond stat rdata).errInfo = s.errInfo := rfl
@[simp] theorem State.respond_errOpc (stat : BitVec 4) (rdata : BitVec 32) : (s.respond stat rdata).errOpc = s.errOpc := rfl
@[simp] theorem State.respond_outbyte (stat : BitVec 4) (rdata : BitVec 32) : (s.respond stat rdata).outbyte = s.outbyte := rfl
@[simp] theorem State.respond_outsym (stat : BitVec 4) (rdata : BitVec 32) : (s.respond stat rdata).outsym = s.outsym := rfl
@[simp] theorem State.respond_outbit (stat : BitVec 4) (rdata : BitVec 32) : (s.respond stat rdata).outbit = s.outbit := rfl
@[simp] theorem State.respond_rsp (stat : BitVec 4) (rdata : BitVec 32) : (s.respond stat rdata).rsp = s.rsp ++ [rspWord stat rdata] := rfl
@[simp] theorem State.respond_input (stat : BitVec 4) (rdata : BitVec 32) : (s.respond stat rdata).input = s.input := rfl

@[simp] theorem State.refuseHalted_freq : s.refuseHalted.freq = s.freq := rfl
@[simp] theorem State.refuseHalted_nodes : s.refuseHalted.nodes = s.nodes := rfl
@[simp] theorem State.refuseHalted_clen : s.refuseHalted.clen = s.clen := rfl
@[simp] theorem State.refuseHalted_code : s.refuseHalted.code = s.code := rfl
@[simp] theorem State.refuseHalted_tv : s.refuseHalted.tv = s.tv := rfl
@[simp] theorem State.refuseHalted_cv : s.refuseHalted.cv = s.cv := rfl
@[simp] theorem State.refuseHalted_nleaves : s.refuseHalted.nleaves = s.nleaves := rfl
@[simp] theorem State.refuseHalted_root : s.refuseHalted.root = s.root := rfl
@[simp] theorem State.refuseHalted_cur : s.refuseHalted.cur = s.cur := rfl
@[simp] theorem State.refuseHalted_pacc : s.refuseHalted.pacc = s.pacc := rfl
@[simp] theorem State.refuseHalted_pn : s.refuseHalted.pn = s.pn := rfl
@[simp] theorem State.refuseHalted_padlen : s.refuseHalted.padlen = s.padlen := rfl
@[simp] theorem State.refuseHalted_upad : s.refuseHalted.upad = s.upad := rfl
@[simp] theorem State.refuseHalted_epk : s.refuseHalted.epk = s.epk := rfl
@[simp] theorem State.refuseHalted_udc : s.refuseHalted.udc = s.udc := rfl
@[simp] theorem State.refuseHalted_errCause : s.refuseHalted.errCause = s.errCause := rfl
@[simp] theorem State.refuseHalted_errInfo : s.refuseHalted.errInfo = s.errInfo := rfl
@[simp] theorem State.refuseHalted_errOpc : s.refuseHalted.errOpc = s.errOpc := rfl
@[simp] theorem State.refuseHalted_outbyte : s.refuseHalted.outbyte = s.outbyte := rfl
@[simp] theorem State.refuseHalted_outsym : s.refuseHalted.outsym = s.outsym := rfl
@[simp] theorem State.refuseHalted_outbit : s.refuseHalted.outbit = s.outbit := rfl
@[simp] theorem State.refuseHalted_rsp : s.refuseHalted.rsp = s.rsp ++ [rspWord statHalted 0#32] := rfl
@[simp] theorem State.refuseHalted_input : s.refuseHalted.input = s.input := rfl

@[simp] theorem State.faultEntry_freq (c : Cause) (opc a : BitVec 8) : (s.faultEntry c opc a).freq = s.freq := rfl
@[simp] theorem State.faultEntry_nodes (c : Cause) (opc a : BitVec 8) : (s.faultEntry c opc a).nodes = s.nodes := rfl
@[simp] theorem State.faultEntry_clen (c : Cause) (opc a : BitVec 8) : (s.faultEntry c opc a).clen = s.clen := rfl
@[simp] theorem State.faultEntry_code (c : Cause) (opc a : BitVec 8) : (s.faultEntry c opc a).code = s.code := rfl
@[simp] theorem State.faultEntry_tv (c : Cause) (opc a : BitVec 8) : (s.faultEntry c opc a).tv = s.tv := rfl
@[simp] theorem State.faultEntry_cv (c : Cause) (opc a : BitVec 8) : (s.faultEntry c opc a).cv = s.cv := rfl
@[simp] theorem State.faultEntry_nleaves (c : Cause) (opc a : BitVec 8) : (s.faultEntry c opc a).nleaves = s.nleaves := rfl
@[simp] theorem State.faultEntry_root (c : Cause) (opc a : BitVec 8) : (s.faultEntry c opc a).root = s.root := rfl
@[simp] theorem State.faultEntry_cur (c : Cause) (opc a : BitVec 8) : (s.faultEntry c opc a).cur = s.cur := rfl
@[simp] theorem State.faultEntry_pacc (c : Cause) (opc a : BitVec 8) : (s.faultEntry c opc a).pacc = s.pacc := rfl
@[simp] theorem State.faultEntry_pn (c : Cause) (opc a : BitVec 8) : (s.faultEntry c opc a).pn = s.pn := rfl
@[simp] theorem State.faultEntry_padlen (c : Cause) (opc a : BitVec 8) : (s.faultEntry c opc a).padlen = s.padlen := rfl
@[simp] theorem State.faultEntry_upad (c : Cause) (opc a : BitVec 8) : (s.faultEntry c opc a).upad = s.upad := rfl
@[simp] theorem State.faultEntry_epk (c : Cause) (opc a : BitVec 8) : (s.faultEntry c opc a).epk = s.epk := rfl
@[simp] theorem State.faultEntry_udc (c : Cause) (opc a : BitVec 8) : (s.faultEntry c opc a).udc = s.udc := rfl
@[simp] theorem State.faultEntry_errCause (c : Cause) (opc a : BitVec 8) : (s.faultEntry c opc a).errCause = c.code := rfl
@[simp] theorem State.faultEntry_errInfo (c : Cause) (opc a : BitVec 8) : (s.faultEntry c opc a).errInfo = a := rfl
@[simp] theorem State.faultEntry_errOpc (c : Cause) (opc a : BitVec 8) : (s.faultEntry c opc a).errOpc = opc := rfl
@[simp] theorem State.faultEntry_outbyte (c : Cause) (opc a : BitVec 8) : (s.faultEntry c opc a).outbyte = s.outbyte := rfl
@[simp] theorem State.faultEntry_outsym (c : Cause) (opc a : BitVec 8) : (s.faultEntry c opc a).outsym = s.outsym := rfl
@[simp] theorem State.faultEntry_outbit (c : Cause) (opc a : BitVec 8) : (s.faultEntry c opc a).outbit = s.outbit := rfl
@[simp] theorem State.faultEntry_rsp (c : Cause) (opc a : BitVec 8) : (s.faultEntry c opc a).rsp = s.rsp ++ [rspWord c.code 0#32] := rfl
@[simp] theorem State.faultEntry_input (c : Cause) (opc a : BitVec 8) : (s.faultEntry c opc a).input = s.input := rfl

@[simp] theorem State.toReset_freq : s.toReset.freq = State.reset.freq := rfl
@[simp] theorem State.toReset_nodes : s.toReset.nodes = State.reset.nodes := rfl
@[simp] theorem State.toReset_clen : s.toReset.clen = State.reset.clen := rfl
@[simp] theorem State.toReset_code : s.toReset.code = State.reset.code := rfl
@[simp] theorem State.toReset_tv : s.toReset.tv = State.reset.tv := rfl
@[simp] theorem State.toReset_cv : s.toReset.cv = State.reset.cv := rfl
@[simp] theorem State.toReset_nleaves : s.toReset.nleaves = State.reset.nleaves := rfl
@[simp] theorem State.toReset_root : s.toReset.root = State.reset.root := rfl
@[simp] theorem State.toReset_cur : s.toReset.cur = State.reset.cur := rfl
@[simp] theorem State.toReset_pacc : s.toReset.pacc = State.reset.pacc := rfl
@[simp] theorem State.toReset_pn : s.toReset.pn = State.reset.pn := rfl
@[simp] theorem State.toReset_padlen : s.toReset.padlen = State.reset.padlen := rfl
@[simp] theorem State.toReset_upad : s.toReset.upad = State.reset.upad := rfl
@[simp] theorem State.toReset_epk : s.toReset.epk = State.reset.epk := rfl
@[simp] theorem State.toReset_udc : s.toReset.udc = State.reset.udc := rfl
@[simp] theorem State.toReset_errCause : s.toReset.errCause = State.reset.errCause := rfl
@[simp] theorem State.toReset_errInfo : s.toReset.errInfo = State.reset.errInfo := rfl
@[simp] theorem State.toReset_errOpc : s.toReset.errOpc = State.reset.errOpc := rfl
@[simp] theorem State.toReset_outbyte : s.toReset.outbyte = s.outbyte := rfl
@[simp] theorem State.toReset_outsym : s.toReset.outsym = s.outsym := rfl
@[simp] theorem State.toReset_outbit : s.toReset.outbit = s.outbit := rfl
@[simp] theorem State.toReset_rsp : s.toReset.rsp = s.rsp := rfl
@[simp] theorem State.toReset_input : s.toReset.input = s.input := rfl

@[simp] theorem State.writeTree_freq (t : BuiltTree) : (s.writeTree t).freq = s.freq := rfl
@[simp] theorem State.writeTree_nodes (t : BuiltTree) : (s.writeTree t).nodes = t.nodes := rfl
@[simp] theorem State.writeTree_clen (t : BuiltTree) : (s.writeTree t).clen = s.clen := rfl
@[simp] theorem State.writeTree_code (t : BuiltTree) : (s.writeTree t).code = s.code := rfl
@[simp] theorem State.writeTree_tv (t : BuiltTree) : (s.writeTree t).tv = s.tv := rfl
@[simp] theorem State.writeTree_cv (t : BuiltTree) : (s.writeTree t).cv = s.cv := rfl
@[simp] theorem State.writeTree_nleaves (t : BuiltTree) : (s.writeTree t).nleaves = t.nleaves := rfl
@[simp] theorem State.writeTree_root (t : BuiltTree) : (s.writeTree t).root = t.root := rfl
@[simp] theorem State.writeTree_cur (t : BuiltTree) : (s.writeTree t).cur = t.root := rfl
@[simp] theorem State.writeTree_pacc (t : BuiltTree) : (s.writeTree t).pacc = s.pacc := rfl
@[simp] theorem State.writeTree_pn (t : BuiltTree) : (s.writeTree t).pn = s.pn := rfl
@[simp] theorem State.writeTree_padlen (t : BuiltTree) : (s.writeTree t).padlen = s.padlen := rfl
@[simp] theorem State.writeTree_upad (t : BuiltTree) : (s.writeTree t).upad = s.upad := rfl
@[simp] theorem State.writeTree_epk (t : BuiltTree) : (s.writeTree t).epk = s.epk := rfl
@[simp] theorem State.writeTree_udc (t : BuiltTree) : (s.writeTree t).udc = s.udc := rfl
@[simp] theorem State.writeTree_errCause (t : BuiltTree) : (s.writeTree t).errCause = s.errCause := rfl
@[simp] theorem State.writeTree_errInfo (t : BuiltTree) : (s.writeTree t).errInfo = s.errInfo := rfl
@[simp] theorem State.writeTree_errOpc (t : BuiltTree) : (s.writeTree t).errOpc = s.errOpc := rfl
@[simp] theorem State.writeTree_outbyte (t : BuiltTree) : (s.writeTree t).outbyte = s.outbyte := rfl
@[simp] theorem State.writeTree_outsym (t : BuiltTree) : (s.writeTree t).outsym = s.outsym := rfl
@[simp] theorem State.writeTree_outbit (t : BuiltTree) : (s.writeTree t).outbit = s.outbit := rfl
@[simp] theorem State.writeTree_rsp (t : BuiltTree) : (s.writeTree t).rsp = s.rsp := rfl
@[simp] theorem State.writeTree_input (t : BuiltTree) : (s.writeTree t).input = s.input := rfl

@[simp] theorem State.writeCodes_freq (t : CodeTables) : (s.writeCodes t).freq = s.freq := rfl
@[simp] theorem State.writeCodes_nodes (t : CodeTables) : (s.writeCodes t).nodes = s.nodes := rfl
@[simp] theorem State.writeCodes_clen (t : CodeTables) : (s.writeCodes t).clen = t.clen := rfl
@[simp] theorem State.writeCodes_code (t : CodeTables) : (s.writeCodes t).code = t.code := rfl
@[simp] theorem State.writeCodes_tv (t : CodeTables) : (s.writeCodes t).tv = s.tv := rfl
@[simp] theorem State.writeCodes_cv (t : CodeTables) : (s.writeCodes t).cv = s.cv := rfl
@[simp] theorem State.writeCodes_nleaves (t : CodeTables) : (s.writeCodes t).nleaves = s.nleaves := rfl
@[simp] theorem State.writeCodes_root (t : CodeTables) : (s.writeCodes t).root = s.root := rfl
@[simp] theorem State.writeCodes_cur (t : CodeTables) : (s.writeCodes t).cur = s.cur := rfl
@[simp] theorem State.writeCodes_pacc (t : CodeTables) : (s.writeCodes t).pacc = s.pacc := rfl
@[simp] theorem State.writeCodes_pn (t : CodeTables) : (s.writeCodes t).pn = s.pn := rfl
@[simp] theorem State.writeCodes_padlen (t : CodeTables) : (s.writeCodes t).padlen = s.padlen := rfl
@[simp] theorem State.writeCodes_upad (t : CodeTables) : (s.writeCodes t).upad = s.upad := rfl
@[simp] theorem State.writeCodes_epk (t : CodeTables) : (s.writeCodes t).epk = s.epk := rfl
@[simp] theorem State.writeCodes_udc (t : CodeTables) : (s.writeCodes t).udc = s.udc := rfl
@[simp] theorem State.writeCodes_errCause (t : CodeTables) : (s.writeCodes t).errCause = s.errCause := rfl
@[simp] theorem State.writeCodes_errInfo (t : CodeTables) : (s.writeCodes t).errInfo = s.errInfo := rfl
@[simp] theorem State.writeCodes_errOpc (t : CodeTables) : (s.writeCodes t).errOpc = s.errOpc := rfl
@[simp] theorem State.writeCodes_outbyte (t : CodeTables) : (s.writeCodes t).outbyte = s.outbyte := rfl
@[simp] theorem State.writeCodes_outsym (t : CodeTables) : (s.writeCodes t).outsym = s.outsym := rfl
@[simp] theorem State.writeCodes_outbit (t : CodeTables) : (s.writeCodes t).outbit = s.outbit := rfl
@[simp] theorem State.writeCodes_rsp (t : CodeTables) : (s.writeCodes t).rsp = s.rsp := rfl
@[simp] theorem State.writeCodes_input (t : CodeTables) : (s.writeCodes t).input = s.input := rfl

@[simp] theorem State.presentFirst_freq (x : HostInput) : (s.presentFirst x).freq = s.freq := rfl
@[simp] theorem State.presentFirst_nodes (x : HostInput) : (s.presentFirst x).nodes = s.nodes := rfl
@[simp] theorem State.presentFirst_clen (x : HostInput) : (s.presentFirst x).clen = s.clen := rfl
@[simp] theorem State.presentFirst_code (x : HostInput) : (s.presentFirst x).code = s.code := rfl
@[simp] theorem State.presentFirst_tv (x : HostInput) : (s.presentFirst x).tv = s.tv := rfl
@[simp] theorem State.presentFirst_cv (x : HostInput) : (s.presentFirst x).cv = s.cv := rfl
@[simp] theorem State.presentFirst_nleaves (x : HostInput) : (s.presentFirst x).nleaves = s.nleaves := rfl
@[simp] theorem State.presentFirst_root (x : HostInput) : (s.presentFirst x).root = s.root := rfl
@[simp] theorem State.presentFirst_cur (x : HostInput) : (s.presentFirst x).cur = s.cur := rfl
@[simp] theorem State.presentFirst_pacc (x : HostInput) : (s.presentFirst x).pacc = s.pacc := rfl
@[simp] theorem State.presentFirst_pn (x : HostInput) : (s.presentFirst x).pn = s.pn := rfl
@[simp] theorem State.presentFirst_padlen (x : HostInput) : (s.presentFirst x).padlen = s.padlen := rfl
@[simp] theorem State.presentFirst_upad (x : HostInput) : (s.presentFirst x).upad = s.upad := rfl
@[simp] theorem State.presentFirst_epk (x : HostInput) : (s.presentFirst x).epk = s.epk := rfl
@[simp] theorem State.presentFirst_udc (x : HostInput) : (s.presentFirst x).udc = s.udc := rfl
@[simp] theorem State.presentFirst_errCause (x : HostInput) : (s.presentFirst x).errCause = s.errCause := rfl
@[simp] theorem State.presentFirst_errInfo (x : HostInput) : (s.presentFirst x).errInfo = s.errInfo := rfl
@[simp] theorem State.presentFirst_errOpc (x : HostInput) : (s.presentFirst x).errOpc = s.errOpc := rfl
@[simp] theorem State.presentFirst_outbyte (x : HostInput) : (s.presentFirst x).outbyte = s.outbyte := rfl
@[simp] theorem State.presentFirst_outsym (x : HostInput) : (s.presentFirst x).outsym = s.outsym := rfl
@[simp] theorem State.presentFirst_outbit (x : HostInput) : (s.presentFirst x).outbit = s.outbit := rfl
@[simp] theorem State.presentFirst_rsp (x : HostInput) : (s.presentFirst x).rsp = s.rsp := rfl
@[simp] theorem State.presentFirst_input (x : HostInput) : (s.presentFirst x).input = x :: s.input := rfl

end Sys2Proof.Machine
end

