-- ==== Sys2Proof/Laws/Ops.lean ====
section
/-! SUPPORT. Laws/Ops.lean: for every shared operation, once, everything it can do: table accesses, the dispatch
procedure, and the micro-operations of the packer, the unpacker and the decoder. -/

namespace Sys2Proof.Machine

/-! ## Flags and tables -/

@[simp] theorem State.halted_eq_true {s : State} : s.halted = true ↔ s.errCause ≠ 0#4 := by
  simp [State.halted]

@[simp] theorem State.halted_eq_false {s : State} : s.halted = false ↔ s.errCause = 0#4 := by
  simp [State.halted]

theorem State.readFreq_writeFreq_self (s : State) (sym : Symbol) (v : Count) :
    (s.writeFreq sym v).readFreq sym = v := by
  simp [State.readFreq, State.writeFreq]

theorem State.readFreq_writeFreq_other (s : State) {sym sym' : Symbol} (v : Count) (h : sym ≠ sym') :
    (s.writeFreq sym v).readFreq sym' = s.readFreq sym' := by
  have : sym.toNat ≠ sym'.toNat := fun e => h (BitVec.eq_of_toNat_eq e)
  simp [State.readFreq, State.writeFreq, this]

theorem State.readCode_length_le (s : State) (sym : Symbol) : (s.readCode sym).length ≤ 255 := by
  have := (s.readClen sym).isLt
  simp only [State.readCode, List.length_take]
  omega

/-! ## The dispatch procedure (60_exceptions R245) -/

/-- Everything `runCommand` can answer with a next state: the Halted response, completion, or fault entry. -/
theorem runCommand_next {i : Instr} {body : State → CmdResult} {s t : State}
    (h : runCommand i body s = .next t) :
    (s.errCause ≠ 0#4 ∧ t = s.refuseHalted) ∨
      (s.errCause = 0#4 ∧
        ((∃ s' v, body s = .done s' v ∧ t = s'.respond statOk v) ∨
          ∃ c s', body s = .raise c s' ∧ t = s'.faultEntry c i.opc i.aField)) := by
  unfold runCommand at h
  split at h
  · next hh => exact .inl ⟨State.halted_eq_true.1 hh, by simpa using h.symm⟩
  · next hh =>
    refine .inr ⟨State.halted_eq_false.1 (by simpa using hh), ?_⟩
    cases hb : body s <;> simp only [hb, CmdResult.conclude] at h
    · exact .inl ⟨_, _, rfl, by simpa using h.symm⟩
    · exact .inr ⟨_, _, rfl, by simpa using h.symm⟩
    · cases h

theorem runCommand_of_halted {s : State} (i : Instr) (body : State → CmdResult) (h : s.errCause ≠ 0#4) :
    runCommand i body s = .next s.refuseHalted := by
  simp [runCommand, h]

theorem runCommand_of_done {s s' : State} {v : BitVec 32} (i : Instr) {body : State → CmdResult}
    (h : s.errCause = 0#4) (hb : body s = .done s' v) :
    runCommand i body s = .next (s'.respond statOk v) := by
  simp [runCommand, State.halted_eq_false.2 h, hb, CmdResult.conclude]

theorem runCommand_of_raise {s s' : State} {c : Cause} (i : Instr) {body : State → CmdResult}
    (h : s.errCause = 0#4) (hb : body s = .raise c s') :
    runCommand i body s = .next (s'.faultEntry c i.opc i.aField) := by
  simp [runCommand, State.halted_eq_false.2 h, hb, CmdResult.conclude]

theorem Cause.code_ne_zero (c : Cause) : c.code ≠ 0#4 := by cases c <;> decide

theorem Cause.code_le_six (c : Cause) : c.code.toNat ≤ 6 := by cases c <;> decide

/-! ## The packer (43_bit_packer R161) -/

/-- PackBit writes PACC, PN and OUTBYTE and nothing else. -/
theorem packBit_only (s : State) (b : Bool) :
    packBit s b =
      { s with pacc := (packBit s b).pacc, pn := (packBit s b).pn, outbyte := (packBit s b).outbyte } := by
  unfold packBit
  split <;> rfl

theorem foldl_packBit_only (bits : List Bool) (s : State) :
    bits.foldl packBit s =
      { s with
        pacc := (bits.foldl packBit s).pacc, pn := (bits.foldl packBit s).pn,
        outbyte := (bits.foldl packBit s).outbyte } := by
  induction bits generalizing s with
  | nil => rfl
  | cons b bits ih =>
    have h := ih (packBit s b)
    rw [List.foldl_cons, h]
    generalize List.foldl packBit (packBit s b) bits = u
    rw [packBit_only s b]

/-! ## OUTBIT (10_state R47) -/

theorem foldl_emitBit (bits : List Bool) (s : State) :
    bits.foldl State.emitBit s = { s with outbit := s.outbit ++ bits } := by
  induction bits generalizing s with
  | nil => simp
  | cons b bits ih => simp [ih, State.emitBit]

/-! ## The decoder (45_decoder R181, R183, R184) -/

theorem decCheck_eq_none {nbits : Nat} {s : State} :
    decCheck nbits s = none ↔ s.tv = true ∧ (s.nleaves = 0 → nbits = 0) := by
  unfold decCheck
  cases h : s.tv <;> simp

/-- The faults of DecCheck, with what each says of the state. -/
theorem decCheck_eq_some {nbits : Nat} {s : State} {c : Cause} (h : decCheck nbits s = some c) :
    (c = .noTree ∧ s.tv = false) ∨ (c = .emptyTreeBit ∧ s.tv = true ∧ s.nleaves = 0 ∧ 0 < nbits) := by
  unfold decCheck at h
  cases htv : s.tv <;> simp [htv] at h
  · exact .inl ⟨h.symm, rfl⟩
  · exact .inr ⟨h.2.symm, rfl, h.1.1, h.1.2⟩

/-- DecBit writes CUR and OUTSYM and nothing else. -/
theorem decBit_only (s : State) (b : Bool) :
    decBit s b = { s with cur := (decBit s b).cur, outsym := (decBit s b).outsym } := by
  unfold decBit
  split
  · rfl
  · simp only
    split <;> rfl

theorem foldl_decBit_only (bits : List Bool) (s : State) :
    bits.foldl decBit s =
      { s with cur := (bits.foldl decBit s).cur, outsym := (bits.foldl decBit s).outsym } := by
  induction bits generalizing s with
  | nil => rfl
  | cons b bits ih =>
    have h := ih (decBit s b)
    rw [List.foldl_cons, h]
    generalize List.foldl decBit (decBit s b) bits = u
    rw [decBit_only s b]

/-- DecBit on a normal tree: a leaf is emitted and the cursor goes back to the root, or the cursor moves (R183). -/
theorem decBit_normal {s : State} (h : s.nleaves ≠ 1) (b : Bool) :
    ((childOn (s.readNode s.cur) b).val < 256 ∧
        decBit s b =
          { s with
            outsym := s.outsym ++ [BitVec.ofNat 8 (childOn (s.readNode s.cur) b).val], cur := s.root }) ∨
      (256 ≤ (childOn (s.readNode s.cur) b).val ∧
        decBit s b = { s with cur := childOn (s.readNode s.cur) b }) := by
  unfold decBit
  by_cases hn : (childOn (s.readNode s.cur) b).val < 256
  · exact .inl ⟨hn, by simp [h, hn, State.emitSyms]⟩
  · exact .inr ⟨by omega, by simp [h, hn]⟩

/-- Everything DecEnd can do (R184). -/
theorem decEnd_cases (s : State) :
    (s.nleaves = 0 ∧ decEnd s = .done s 0#32) ∨
      (s.nleaves = 1 ∧
        decEnd s =
          .done (s.emitSyms (List.replicate (s.readNode s.root).weight.toNat (BitVec.ofNat 8 s.root.val))) 0#32) ∨
      (s.nleaves ≠ 0 ∧ s.nleaves ≠ 1 ∧ s.cur ≠ s.root ∧ decEnd s = .raise .truncatedStream s) ∨
      (s.nleaves ≠ 0 ∧ s.nleaves ≠ 1 ∧ s.cur = s.root ∧ decEnd s = .done s 0#32) := by
  unfold decEnd
  by_cases h0 : s.nleaves = 0 <;> by_cases h1 : s.nleaves = 1 <;> by_cases hc : s.cur = s.root <;>
    simp [h0, h1, hc]

/-- DeliverBit is DecBit or an append to OUTBIT, by CTRL.UDC (44_bit_unpacker R171). -/
theorem foldl_deliverBit_udc {s : State} (h : s.udc = true) (bits : List Bool) :
    bits.foldl deliverBit s = bits.foldl decBit s := by
  induction bits generalizing s with
  | nil => rfl
  | cons b bits ih =>
    have h' : (decBit s b).udc = true := by rw [decBit_only]; exact h
    simp only [List.foldl_cons, deliverBit, h, if_true]
    exact ih h'

theorem foldl_deliverBit_outbit {s : State} (h : s.udc = false) (bits : List Bool) :
    bits.foldl deliverBit s = { s with outbit := s.outbit ++ bits } := by
  induction bits generalizing s with
  | nil => simp
  | cons b bits ih =>
    have h' : (s.emitBit b).udc = false := h
    rw [List.foldl_cons, show deliverBit s b = s.emitBit b by simp [deliverBit, h], ih h']
    simp [State.emitBit]

/-- EmitCodeBit is PackBit or an append to OUTBIT, by CTRL.EPK (42_code_generator R148). -/
theorem foldl_emitCodeBit_epk {s : State} (h : s.epk = true) (bits : List Bool) :
    bits.foldl emitCodeBit s = bits.foldl packBit s := by
  induction bits generalizing s with
  | nil => rfl
  | cons b bits ih =>
    have h' : (packBit s b).epk = true := by rw [packBit_only]; exact h
    simp only [List.foldl_cons, emitCodeBit, h, if_true]
    exact ih h'

theorem foldl_emitCodeBit_outbit {s : State} (h : s.epk = false) (bits : List Bool) :
    bits.foldl emitCodeBit s = { s with outbit := s.outbit ++ bits } := by
  induction bits generalizing s with
  | nil => simp
  | cons b bits ih =>
    have h' : (s.emitBit b).epk = false := h
    rw [List.foldl_cons, show emitCodeBit s b = s.emitBit b by simp [emitCodeBit, h], ih h']
    simp [State.emitBit]

end Sys2Proof.Machine
end

