-- ==== Sys2Proof/Laws/PerInstr.lean ====
section
/-! SUPPORT. Laws/PerInstr.lean: the family SpellsRow: the word an instruction encodes to spells its own row of the
opcode table (30_encoding R84). The table's masks and patterns and the encoder were written out separately. -/

namespace Sys2Proof.Laws.SpellsRow

/-- The encoded word spells the row of the table that bears the instruction's mnemonic (R84). -/
def Statement (i : Instr) : Prop :=
  ∃ r ∈ opcodeRows, r.mnemonic = i.mnemonic ∧ r.spells (encode i) = true

theorem maskS_fields : maskS = CmdWord.ofFields 0xFF#8 0x00#8 0xFFFFFFFF#32 := by decide
theorem maskSD_fields : maskSD = CmdWord.ofFields 0xFF#8 0x00#8 0x00000000#32 := by decide
theorem maskSW_fields : maskSW = CmdWord.ofFields 0xFF#8 0x00#8 0xFFFFFFF8#32 := by decide

/-- Format S: whatever A holds, the masked word is OPC alone. -/
theorem spells_S (m : String) (p : CmdWord) (opc a : BitVec 8) (h : p = CmdWord.ofFields opc 0#8 0#32) :
    (OpcodeRow.mk m p maskS).spells (CmdWord.ofFields opc a 0#32) = true := by
  simp [OpcodeRow.spells, h, maskS_fields, CmdWord.ofFields_and, show opc &&& 255#8 = opc from BitVec.and_allOnes]

/-- Format SD: whatever A and D hold, the masked word is OPC alone. -/
theorem spells_SD (m : String) (p : CmdWord) (opc a : BitVec 8) (d : BitVec 32)
    (h : p = CmdWord.ofFields opc 0#8 0#32) :
    (OpcodeRow.mk m p maskSD).spells (CmdWord.ofFields opc a d) = true := by
  simp [OpcodeRow.spells, h, maskSD_fields, CmdWord.ofFields_and, show opc &&& 255#8 = opc from BitVec.and_allOnes]

/-- Format SW: whatever A and D[2:0] hold, the masked word is OPC alone. -/
theorem spells_SW (m : String) (p : CmdWord) (opc a : BitVec 8) (w : BitVec 3)
    (h : p = CmdWord.ofFields opc 0#8 0#32) :
    (OpcodeRow.mk m p maskSW).spells (CmdWord.ofFields opc a (w.setWidth 32)) = true := by
  have hw : w.setWidth 32 &&& 0xFFFFFFF8#32 = 0#32 := by revert w; decide
  simp [OpcodeRow.spells, h, maskSW_fields, CmdWord.ofFields_and, hw,
    show opc &&& 255#8 = opc from BitVec.and_allOnes]

theorem nop : Statement .nop :=
  ⟨⟨"NOP", 0x000000000000#48, maskN⟩, by simp [opcodeRows], rfl, by decide⟩

theorem srst : Statement .srst :=
  ⟨⟨"SRST", 0x010000000000#48, maskN⟩, by simp [opcodeRows], rfl, by decide⟩

theorem rdcsr (csr : BitVec 8) : Statement (.rdcsr csr) :=
  ⟨⟨"RDCSR", 0x020000000000#48, maskS⟩, by simp [opcodeRows], rfl, spells_S _ _ 0x02#8 _ (by decide)⟩

theorem wrcsr (csr : BitVec 8) (data : BitVec 32) : Statement (.wrcsr csr data) :=
  ⟨⟨"WRCSR", 0x030000000000#48, maskSD⟩, by simp [opcodeRows], rfl, spells_SD _ _ 0x03#8 _ _ (by decide)⟩

theorem clear : Statement .clear :=
  ⟨⟨"CLEAR", 0x100000000000#48, maskN⟩, by simp [opcodeRows], rfl, by decide⟩

theorem count (sym : Symbol) : Statement (.count sym) :=
  ⟨⟨"COUNT", 0x110000000000#48, maskS⟩, by simp [opcodeRows], rfl, spells_S _ _ 0x11#8 _ (by decide)⟩

theorem wrfreq (sym : Symbol) (cnt : Count) : Statement (.wrfreq sym cnt) :=
  ⟨⟨"WRFREQ", 0x120000000000#48, maskSD⟩, by simp [opcodeRows], rfl, spells_SD _ _ 0x12#8 _ _ (by decide)⟩

theorem rdfreq (sym : Symbol) : Statement (.rdfreq sym) :=
  ⟨⟨"RDFREQ", 0x130000000000#48, maskS⟩, by simp [opcodeRows], rfl, spells_S _ _ 0x13#8 _ (by decide)⟩

theorem build : Statement .build :=
  ⟨⟨"BUILD", 0x200000000000#48, maskN⟩, by simp [opcodeRows], rfl, by decide⟩

theorem gen : Statement .gen :=
  ⟨⟨"GEN", 0x300000000000#48, maskN⟩, by simp [opcodeRows], rfl, by decide⟩

theorem rdclen (sym : Symbol) : Statement (.rdclen sym) :=
  ⟨⟨"RDCLEN", 0x310000000000#48, maskS⟩, by simp [opcodeRows], rfl, spells_S _ _ 0x31#8 _ (by decide)⟩

theorem rdcode (sym : Symbol) (w : BitVec 3) : Statement (.rdcode sym w) :=
  ⟨⟨"RDCODE", 0x320000000000#48, maskSW⟩, by simp [opcodeRows], rfl, spells_SW _ _ 0x32#8 _ _ (by decide)⟩

theorem enc (sym : Symbol) : Statement (.enc sym) :=
  ⟨⟨"ENC", 0x330000000000#48, maskS⟩, by simp [opcodeRows], rfl, spells_S _ _ 0x33#8 _ (by decide)⟩

theorem pbit (bit : Bool) : Statement (.pbit bit) :=
  ⟨⟨"PBIT", 0x400000000000#48, maskB⟩, by simp [opcodeRows], rfl, by cases bit <;> decide⟩

theorem pflush : Statement .pflush :=
  ⟨⟨"PFLUSH", 0x410000000000#48, maskN⟩, by simp [opcodeRows], rfl, by decide⟩

theorem ubyte (byte : Byte) : Statement (.ubyte byte) :=
  ⟨⟨"UBYTE", 0x500000000000#48, maskS⟩, by simp [opcodeRows], rfl, spells_S _ _ 0x50#8 _ (by decide)⟩

theorem ulast (byte : Byte) : Statement (.ulast byte) :=
  ⟨⟨"ULAST", 0x510000000000#48, maskS⟩, by simp [opcodeRows], rfl, spells_S _ _ 0x51#8 _ (by decide)⟩

theorem dbit (bit : Bool) : Statement (.dbit bit) :=
  ⟨⟨"DBIT", 0x600000000000#48, maskB⟩, by simp [opcodeRows], rfl, by cases bit <;> decide⟩

theorem dend : Statement .dend :=
  ⟨⟨"DEND", 0x610000000000#48, maskN⟩, by simp [opcodeRows], rfl, by decide⟩

end Sys2Proof.Laws.SpellsRow
end

