-- ==== Sys2Proof/Laws/Sessions.lean ====
section
/-! SUPPORT. Laws/Sessions.lean: how sequences of commands compose, so that a session is taken apart without running it
(48_composition R220 to R222). -/

namespace Sys2Proof.Machine

@[simp] theorem runAll_nil (s : State) : runAll [] s = some s := rfl

theorem runAll_cons_of_next {i : Instr} {s t : State} (h : exec i s = .next t) (rest : List Instr) :
    runAll (i :: rest) s = runAll rest t := by
  simp [runAll, h]

theorem runAll_append (a b : List Instr) (s : State) : runAll (a ++ b) s = (runAll a s).bind (runAll b) := by
  induction a generalizing s with
  | nil => rfl
  | cons i rest ih =>
    simp only [List.cons_append, runAll]
    cases exec i s with
    | next t => exact ih t
    | fault f => rfl
    | refused r => rfl

theorem runAll_append_of_some {a : List Instr} {s t : State} (h : runAll a s = some t) (b : List Instr) :
    runAll (a ++ b) s = runAll b t := by
  simp [runAll_append, h]

/-- Counting a sequence is the session of its COUNTs. -/
theorem countAll_eq_runAll (syms : List Symbol) (s : State) : countAll syms s = runAll (syms.map .count) s := by
  induction syms generalizing s with
  | nil => rfl
  | cons sym rest ih =>
    simp only [countAll, List.map_cons, runAll]
    cases exec (.count sym) s with
    | next t => exact ih t
    | fault f => rfl
    | refused r => rfl

end Sys2Proof.Machine
end

