-- ==== Sys2Proof/Laws/Tree.lean ====
section
/-! SUPPORT. Laws/Tree.lean: what ExtractMin answers and what the merge loop leaves alone (41_tree_builder R121 to
R124), and the shape of a walk (42_code_generator R141). -/

namespace Sys2Proof.Machine

/-- `least` answers an element of the collection. -/
theorem least_mem (nodes : Vector Node 511) (i : NodeIdx) (rest : List NodeIdx) :
    least nodes i rest ∈ i :: rest := by
  induction rest generalizing i with
  | nil => simp [least]
  | cons j rest ih =>
    have h := ih (if before nodes j i then j else i)
    rw [least]
    split at h <;> rename_i hb <;> simp only [hb] <;> simp at h ⊢ <;> tauto

/-- What ExtractMin answers: an element of the collection, and the collection with one occurrence less. -/
theorem extractMin_some {nodes : Vector Node 511} {live live' : List NodeIdx} {x : NodeIdx}
    (h : extractMin nodes live = some (x, live')) : x ∈ live ∧ live' = live.erase x := by
  cases live with
  | nil => simp [extractMin] at h
  | cons i rest =>
    simp only [extractMin, Option.some.injEq, Prod.mk.injEq] at h
    obtain ⟨rfl, rfl⟩ := h
    exact ⟨least_mem nodes i rest, rfl⟩

/-- ExtractMin answers whenever the collection is not empty. -/
theorem extractMin_isSome {nodes : Vector Node 511} {live : List NodeIdx} (h : live ≠ []) :
    (extractMin nodes live).isSome = true := by
  cases live with
  | nil => exact absurd rfl h
  | cons i rest => rfl

/-- The seeded collection as the present symbols in ascending order (R122). -/
theorem seedLive_eq (freq : Vector Count 256) :
    seedLive freq = ((List.finRange 256).filter fun sym => freq[sym] != 0#32).map leafIdx := by
  have hzip : (List.finRange 256).zip freq.toList = (List.finRange 256).map fun sym => (sym, freq[sym]) := by
    apply List.ext_getElem
    · simp
    · intro i h₁ h₂
      simp
  rw [seedLive, hzip, List.filterMap_map, ← List.filterMap_eq_filter, List.map_filterMap]
  apply List.filterMap_congr
  intro sym _
  by_cases h : freq[sym.val] = 0#32 <;> simp [h, Option.guard]

/-- A symbol's leaf is in the seeded collection exactly when the symbol is present (R122). -/
theorem mem_seedLive {freq : Vector Count 256} {i : NodeIdx} :
    i ∈ seedLive freq ↔ ∃ sym : Fin 256, freq[sym] ≠ 0#32 ∧ leafIdx sym = i := by
  simp [seedLive_eq]

theorem seedLive_length_le (freq : Vector Count 256) : (seedLive freq).length ≤ 256 := by
  rw [seedLive_eq, List.length_map]
  exact (List.length_filter_le _ _).trans (by simp)

theorem seedLive_nodup (freq : Vector Count 256) : (seedLive freq).Nodup := by
  rw [seedLive_eq]
  refine List.Nodup.map ?_ ((List.nodup_finRange 256).filter _)
  intro a b h
  have := congrArg Fin.val h
  exact Fin.ext (by simpa [leafIdx] using this)

theorem internalIdx_val {k : Nat} (h : k ≤ 254) : (internalIdx k).val = 256 + k := by
  simp [internalIdx, Fin.ofNat]
  omega

/-- Merges that create internal nodes from `k` on leave every record below 256 + k alone. -/
theorem mergeLoop_below (m k : Nat) (nodes : Vector Node 511) (live : List NodeIdx) (hk : k + m ≤ 255)
    (i : NodeIdx) (hi : i.val < 256 + k) : (mergeLoop m k nodes live)[i] = nodes[i] := by
  induction m generalizing k nodes live with
  | zero => rfl
  | succ m ih =>
    rw [mergeLoop]
    rcases hx : extractMin nodes live with _ | ⟨x, live1⟩
    · rfl
    · rcases hy : extractMin nodes live1 with _ | ⟨y, live2⟩
      · simp [hy]
      · have hv : (internalIdx k).val = 256 + k := internalIdx_val (by omega)
        simp only [hy]
        rw [ih _ _ _ (by omega) (by omega)]
        simp only [Fin.getElem_fin]
        exact Vector.getElem_set_ne (by omega) (by omega) (by omega)

/-- A walk that answers visits leaves only: a leaf's own index answers its path, an internal node the walks of its
children (42_code_generator R141). -/
theorem walk_leaf (nodes : Vector Node 511) (depth : Nat) {i : NodeIdx} (h : i.val < 256) (path : List Bool) :
    walk nodes depth i path = some [(BitVec.ofNat 8 i.val, path)] := by
  cases depth <;> simp [walk, h]

theorem walk_internal {nodes : Vector Node 511} {depth : Nat} {i : NodeIdx} {path : List Bool}
    {leaves : List (Symbol × List Bool)} (h : 256 ≤ i.val) (hw : walk nodes depth i path = some leaves) :
    ∃ d l r, depth = d + 1 ∧ leaves = l ++ r ∧
      walk nodes d (nodes[i]).left (path ++ [false]) = some l ∧
      walk nodes d (nodes[i]).right (path ++ [true]) = some r := by
  cases depth with
  | zero => simp [walk, show ¬ i.val < 256 by omega] at hw
  | succ d =>
    simp only [walk, show ¬ i.val < 256 by omega, if_false] at hw
    split at hw
    · next l r hl hr => exact ⟨d, l, r, rfl, by simpa using hw.symm, hl, hr⟩
    · cases hw

end Sys2Proof.Machine
end

