-- ==== Sys2Proof/Tests/Slice0.lean ====
section
/-! SUPPORT. Tests/Slice0.lean: the ill-formed terms each check refuses, one word per command decoded, single steps with
the values of spec/95_test_vectors.md, and for every statement with hypotheses a witness that meets them. -/

-- The tests are checked one after another: the many decisions by the kernel would otherwise wait for each other, each
-- in a thread of its own, and exhaust the memory limit of the check.
set_option Elab.async false

namespace Sys2Proof.Tests

open Sys2Proof.Machine

/-! ## WellFormed: an ill-formed term for each check (30_encoding R86, R91) -/

theorem test_wf_rdcsr_reserved : (Instr.rdcsr 0x0A#8).operandDefect = some .reservedCsr := by decide
theorem test_wf_wrcsr_reserved : (Instr.wrcsr 0x0A#8 0#32).operandDefect = some .reservedCsr := by decide
theorem test_wf_wrcsr_read_only : (Instr.wrcsr 0x01#8 0#32).operandDefect = some .readOnlyCsr := by decide
theorem test_wf_wrcsr_ctrl_data : (Instr.wrcsr 0x00#8 4#32).operandDefect = some .ctrlData := by decide
theorem test_wf_wrcsr_upad_data : (Instr.wrcsr 0x08#8 8#32).operandDefect = some .upadData := by decide
theorem test_wf_rdcode_is_bounded : (Instr.rdcode 0x61#8 7#3).wf = true := by decide
/-- CNTW = 32 lets every count pass (R86 line 7), so the check is tried at CNTW = 8. -/
theorem test_wf_count_range : countFits 8 256#32 = false ∧ countFits 8 255#32 = true := by decide

/-! ## Decoding: one word per command (95_test_vectors V-ENC), and the illegal words of V-ENC by name -/

theorem test_decode_nop : (decode 0x000000000000#48).toOption = some (.nop) := by decide
theorem test_decode_srst : (decode 0x010000000000#48).toOption = some (.srst) := by decide
theorem test_decode_rdcsr : (decode 0x020900000000#48).toOption = some (.rdcsr 0x09#8) := by decide
theorem test_decode_wrcsr : (decode 0x030800000007#48).toOption = some (.wrcsr 0x08#8 7#32) := by decide
theorem test_decode_clear : (decode 0x100000000000#48).toOption = some (.clear) := by decide
theorem test_decode_count : (decode 0x11FF00000000#48).toOption = some (.count 0xFF#8) := by decide
theorem test_decode_wrfreq : (decode 0x1200FFFFFFFF#48).toOption = some (.wrfreq 0x00#8 0xFFFFFFFF#32) := by decide
theorem test_decode_rdfreq : (decode 0x136200000000#48).toOption = some (.rdfreq 0x62#8) := by decide
theorem test_decode_build : (decode 0x200000000000#48).toOption = some (.build) := by decide
theorem test_decode_gen : (decode 0x300000000000#48).toOption = some (.gen) := by decide
theorem test_decode_rdclen : (decode 0x316100000000#48).toOption = some (.rdclen 0x61#8) := by decide
theorem test_decode_rdcode : (decode 0x326100000007#48).toOption = some (.rdcode 0x61#8 7#3) := by decide
theorem test_decode_enc : (decode 0x330A00000000#48).toOption = some (.enc 0x0A#8) := by decide
theorem test_decode_pbit : (decode 0x400100000000#48).toOption = some (.pbit true) := by decide
theorem test_decode_pflush : (decode 0x410000000000#48).toOption = some (.pflush) := by decide
theorem test_decode_ubyte : (decode 0x50B300000000#48).toOption = some (.ubyte 0xB3#8) := by decide
theorem test_decode_ulast : (decode 0x518800000000#48).toOption = some (.ulast 0x88#8) := by decide
theorem test_decode_dbit : (decode 0x600000000000#48).toOption = some (.dbit false) := by decide
theorem test_decode_dend : (decode 0x610000000000#48).toOption = some (.dend) := by decide

/-- The illegality a word is rejected for. -/
def rejection (w : CmdWord) : Option IllegalWord :=
  match decode w with
  | .ok _ => none
  | .error e => some e

theorem test_reject_nop_with_operand : rejection 0x000000000001#48 = some .reservedBits := by decide
theorem test_reject_count_with_long_operand : rejection 0x116100000001#48 = some .reservedBits := by decide
theorem test_reject_pbit_reserved_bit : rejection 0x400200000000#48 = some .reservedBits := by decide
theorem test_reject_rdcode_word_8 : rejection 0x326100000008#48 = some .reservedBits := by decide
theorem test_reject_rdcsr_reserved_csr : rejection 0x020A00000000#48 = some .reservedCsr := by decide
theorem test_reject_wrcsr_status : rejection 0x030100000000#48 = some .readOnlyCsr := by decide
theorem test_reject_wrcsr_ctrl_bit_2 : rejection 0x030000000004#48 = some .ctrlData := by decide
theorem test_reject_wrcsr_upad_8 : rejection 0x030800000008#48 = some .upadData := by decide
theorem test_reject_opcode_04 : rejection 0x040000000000#48 = some .reservedOpcode := by decide
theorem test_reject_opcode_FF : rejection 0xFF0000000000#48 = some .reservedOpcode := by decide
theorem test_reject_build_with_operand : rejection 0x200100000000#48 = some .reservedBits := by decide
theorem test_reject_dend_with_operand : rejection 0x610000000001#48 = some .reservedBits := by decide

/-! ## Sample states -/

/-- The frequencies of the document's fixed example "aabbbcc" (41_tree_builder R130). -/
def abc : Vector Count 256 :=
  (((Vector.replicate 256 0#32).set 0x61 2#32).set 0x62 3#32).set 0x63 2#32

/-- The frequencies of "aaaa" (42_code_generator R151). -/
def aaaa : Vector Count 256 := (Vector.replicate 256 0#32).set 0x61 4#32

/-- The frequencies of "abcc" (41_tree_builder R131). -/
def abcc : Vector Count 256 :=
  (((Vector.replicate 256 0#32).set 0x61 1#32).set 0x62 1#32).set 0x63 2#32

/-- A CORE whose table is `freq`, nothing built. -/
def counted (freq : Vector Count 256) : State := { State.reset with freq := freq }

/-- A CORE whose table is `freq`, after BUILD. -/
def built (freq : Vector Count 256) : State :=
  (((counted freq).writeTree (buildTree freq State.reset.nodes)).treePublished)

/-- A CORE whose table is `freq`, after BUILD and GEN. -/
def coded (freq : Vector Count 256) : State :=
  ((built freq).writeCodes ((genCodes (built freq).tree).getD .blank)).codesPublished

/-- A CORE that has faulted with NoTree on a DEND (95_test_vectors V-FAULT-1). -/
def haltedCore : State := { State.reset with errCause := 3#4, errInfo := 0#8, errOpc := 0x61#8 }

/-- What a field reads in the next state; `none` where there is none. -/
def after {α : Type} (o : Host.Outcome State Fault Refusal) (f : State → α) : Option α :=
  match o with
  | .next t => some (f t)
  | _ => none

theorem after_eq {α : Type} {o : Host.Outcome State Fault Refusal} {f : State → α} {c : α}
    (h : after o f = some c) : ∃ t, o = .next t ∧ f t = c := by
  cases o with
  | next t => exact ⟨t, rfl, by simpa [after] using h⟩
  | fault r => cases h
  | refused r => cases h

/-- A state with one word presented. -/
def presented (s : State) (w : CmdWord) : State := s.presentFirst (.command w)

/-! ## Single steps, with the values of 95_test_vectors -/

theorem test_nop_responds_zero : after (exec .nop State.reset) (·.rsp) = some [0x000000000#36] := by decide
theorem test_nop_halted : after (exec .nop haltedCore) (·.rsp) = some [0xF00000000#36] := by decide
/-- V-FAULT-1: SRST runs while halted and clears ERR. -/
theorem test_srst_leaves_halt :
    after (exec .srst haltedCore) (fun t => (t.errView, t.ctrlView, t.rsp)) = some (0#32, 3#32, [0x000000000#36]) := by
  decide
/-- V-SYS-5: bits waiting in PACC are discarded, the streams kept. -/
theorem test_srst_discards_packer :
    after (exec .srst { State.reset with pacc := 0x16#8, pn := 5#3, outbyte := [0xA1#8] })
      (fun t => (t.pn, t.outbyte)) = some (0#3, [0xA1#8]) := by decide
/-- V-SYS-5: PN = 5 shows in STATUS as 0x50. -/
theorem test_rdcsr_status :
    after (exec (.rdcsr 0x01#8) { State.reset with pn := 5#3 }) (·.rsp) = some [0x000000050#36] := by decide
/-- V-FAULT-1: RDCSR ERR is answered while halted. -/
theorem test_rdcsr_err_halted : after (exec (.rdcsr 0x02#8) haltedCore) (·.rsp) = some [0x000610003#36] := by decide
/-- V-SYS-2: WRCSR CTRL, 2 sets EPK = 0, UDC = 1. -/
theorem test_wrcsr_ctrl :
    after (exec (.wrcsr 0x00#8 2#32) State.reset) (fun t => (t.epk, t.udc)) = some (false, true) := by decide
theorem test_wrcsr_upad : after (exec (.wrcsr 0x08#8 7#32) State.reset) (·.upad) = some 7#3 := by decide
theorem test_clear_empties :
    after (exec .clear (counted abc)) (fun t => t.readFreq 0x62#8) = some 0#32 := by decide +kernel
theorem test_count_adds_one :
    after (exec (.count 0x62#8) (counted abc)) (fun t => (t.readFreq 0x62#8, t.readFreq 0x61#8)) = some (4#32, 2#32) := by
  decide +kernel
/-- V-FREQ-5: a full counter faults with ERR 0x00116102 and keeps its count. -/
theorem test_count_overflow :
    after (exec (.count 0x61#8) (State.reset.writeFreq 0x61#8 0xFFFFFFFF#32))
      (fun t => (t.errView, t.readFreq 0x61#8, t.rsp)) = some (0x00116102#32, 0xFFFFFFFF#32, [0x200000000#36]) := by
  decide +kernel
/-- V-FREQ-8: writing the value already there still clears TV. -/
theorem test_wrfreq_invalidates :
    after (exec (.wrfreq 0x61#8 2#32) { counted abc with tv := true, cv := true })
      (fun t => (t.readFreq 0x61#8, t.tv, t.cv)) = some (2#32, false, false) := by decide +kernel
theorem test_rdfreq_answers : after (exec (.rdfreq 0x62#8) (counted abc)) (·.rsp) = some [0x000000003#36] := by
  decide +kernel
/-- V-BUILD-1. -/
theorem test_build_abc :
    after (exec .build (counted abc)) (fun t => (t.nleaves, t.root, t.cur, t.nodes[256], t.nodes[257])) =
      some (3, 257, 257, ⟨4#40, 0x61, 0x63⟩, ⟨7#40, 0x62, 256⟩) := by decide +kernel
/-- V-BUILD-2: a leaf comes before an internal node of equal weight. -/
theorem test_build_tie :
    after (exec .build (counted abcc)) (fun t => (t.nodes[256], t.nodes[257])) =
      some (⟨2#40, 0x61, 0x62⟩, ⟨4#40, 0x63, 256⟩) := by decide +kernel
/-- R150: the codes of "aabbbcc". -/
theorem test_gen_abc :
    after (exec .gen (built abc)) (fun t => (t.readCode 0x61#8, t.readCode 0x62#8, t.readCode 0x63#8, t.readClen 0x7A#8)) =
      some ([true, false], [false], [true, true], 0#8) := by decide +kernel
/-- R151: the single symbol's code is `1`. -/
theorem test_gen_single : after (exec .gen (built aaaa)) (fun t => t.readCode 0x61#8) = some [true] := by decide +kernel
theorem test_rdclen_answers : after (exec (.rdclen 0x61#8) (coded abc)) (·.rsp) = some [0x000000002#36] := by
  decide +kernel
/-- V-GEN-7. -/
theorem test_rdclen_no_code : after (exec (.rdclen 0x61#8) State.reset) (·.errView) = some 0x00316104#32 := by decide
/-- V-GEN-1. -/
theorem test_rdcode_word_0 : after (exec (.rdcode 0x63#8 0#3) (coded abc)) (·.rsp) = some [0x0C0000000#36] := by
  decide +kernel
/-- V-GEN-4: 38 ones then a zero cross the boundary of words 0 and 1. -/
theorem test_rdcode_crosses_words :
    (codeWord (List.replicate 38 true ++ [false]) 0#3, codeWord (List.replicate 38 true ++ [false]) 1#3) =
      (0xFFFFFFFF#32, 0xFC000000#32) := by decide +kernel
/-- V-GEN-6: with EPK = 0 the code goes to OUTBIT. -/
theorem test_enc_to_outbit :
    after (exec (.enc 0x61#8) { coded abc with epk := false }) (fun t => (t.outbit, t.pn)) =
      some ([true, false], 0#3) := by decide +kernel
/-- P1 line 15: the first bit of 'c' completes the unit 0xA1. -/
theorem test_enc_completes_unit :
    after (exec (.enc 0x63#8) { coded abc with pacc := 0x50#8, pn := 7#3 }) (fun t => (t.outbyte, t.pn, t.pacc)) =
      some ([0xA1#8], 1#3, 1#8) := by decide +kernel
/-- V-PACK-2: the first bit of a group is the most significant. -/
theorem test_pbit_first_bit_high :
    ([true, false, false, false, false, false, false, false].foldl packBit State.reset).outbyte = [0x80#8] := by decide
theorem test_pbit_shifts : after (exec (.pbit true) { State.reset with pacc := 2#8, pn := 2#3 })
    (fun t => (t.pacc, t.pn)) = some (5#8, 3#3) := by decide
/-- P3 line 16. -/
theorem test_pflush_pads :
    after (exec .pflush { State.reset with pacc := 0x11#8, pn := 5#3 }) (fun t => (t.outbyte, t.padlen, t.pn)) =
      some ([0x88#8], 3#3, 0#3) := by decide
/-- V-PACK-4: a second PFLUSH appends nothing and sets PADLEN = 0. -/
theorem test_pflush_again :
    after (exec .pflush { State.reset with padlen := 5#3 }) (fun t => (t.outbyte, t.padlen)) = some ([], 0#3) := by decide
/-- V-UNPACK, first line. -/
theorem test_ubyte_to_outbit :
    after (exec (.ubyte 0xB3#8) { State.reset with udc := false }) (·.outbit) =
      some [true, false, true, true, false, false, true, true] := by decide
/-- P1 line 20: 0xA1 decodes to "aabbb" and leaves the cursor mid-path. -/
theorem test_ubyte_decodes :
    after (exec (.ubyte 0xA1#8) (built abc)) (fun t => (t.outsym, t.cur)) =
      some ([0x61#8, 0x61#8, 0x62#8, 0x62#8, 0x62#8], 256) := by decide +kernel
/-- V-UNPACK, second line. -/
theorem test_ulast_strips_pad :
    after (exec (.ulast 0x88#8) { State.reset with udc := false, upad := 3#3 }) (fun t => (t.outbit, t.upad)) =
      some ([true, false, false, false, true], 3#3) := by decide
/-- V-DEC-6: pad length 6 ends mid-path; the bits' effects stay. -/
theorem test_ulast_truncated :
    after (exec (.ulast 0xE0#8) { built abc with upad := 6#3, cur := 256 })
      (fun t => (t.errView, t.outsym, t.cur)) = some (0x0051E001#32, [0x63#8], 256) := by decide +kernel
/-- R190, first two lines. -/
theorem test_dbit_moves : after (exec (.dbit true) (built abc)) (fun t => (t.cur, t.outsym)) = some (256, []) := by
  decide +kernel
theorem test_dbit_emits :
    after (exec (.dbit false) { built abc with cur := 256 }) (fun t => (t.cur, t.outsym)) = some (257, [0x61#8]) := by
  decide +kernel
/-- R185: the tree of "aaaa" emits its run. -/
theorem test_dend_single_leaf :
    after (exec .dend (built aaaa)) (·.outsym) = some [0x61#8, 0x61#8, 0x61#8, 0x61#8] := by decide +kernel
/-- V-DEC-10. -/
theorem test_dend_no_tree : after (exec .dend State.reset) (fun t => (t.errView, t.rsp)) =
    some (0x00610003#32, [0x300000000#36]) := by decide
/-- V-ENC, illegal words: 0x020A00000000 leaves ERR 0x00020A06. -/
theorem test_illegal_word_step :
    after (step (presented State.reset 0x020A00000000#48)) (fun t => (t.errView, t.rsp, t.input)) =
      some (0x00020A06#32, [0x600000000#36], []) := by decide
/-- V-FAULT-1: while halted an illegal word is refused, not a second fault. -/
theorem test_illegal_word_halted :
    after (step (presented haltedCore 0xFF0000000000#48)) (fun t => (t.errView, t.rsp)) =
      some (0x00610003#32, [0xF00000000#36]) := by decide
/-- The host's own question: the word presented is what the next step runs. -/
theorem test_withFetchWord_runs :
    step (State.reset.withFetchWord 48 0x136200000000) = exec (.rdfreq 0x62#8) State.reset := by rfl

/-- "aabbbcc" in bytes (48_composition R228). -/
def aabbbcc : List Symbol := [0x61#8, 0x61#8, 0x62#8, 0x62#8, 0x62#8, 0x63#8, 0x63#8]

/-- R228: the bit string 10100001111 of "aabbbcc". -/
theorem test_encode_fixed_example :
    (coded abc).encodeBits aabbbcc =
      [true, false, true, false, false, false, false, true, true, true, true] := by decide +kernel
/-- R228: that bit string packs into 0xA1, 0xE0 with pad length 5. -/
theorem test_pack_fixed_example :
    (fun t : State => (t.outbyte, t.padlen))
        (flushed ([true, false, true, false, false, false, false, true, true, true, true].foldl packBit State.reset)) =
      ([0xA1#8, 0xE0#8], 5#3) := by decide
/-- R228: the two units unpack with pad length 5 and decode to "aabbbcc". -/
theorem test_decode_fixed_example :
    ((unpackStream [0xA1#8, 0xE0#8] 5).foldl decBit (built abc)).outsym = aabbbcc := by decide +kernel
/-- R227: "aaaa" encodes to 1111. -/
theorem test_encode_single_symbol :
    (coded aaaa).encodeBits [0x61#8, 0x61#8, 0x61#8, 0x61#8] = [true, true, true, true] := by decide +kernel
/-- R227: the last unit of "aaaa" is 0xF0 with UPAD 4, and emits the run. -/
theorem test_ulast_single_symbol :
    after (exec (.ulast 0xF0#8) { built aaaa with upad := 4#3 }) (·.outsym) =
      some [0x61#8, 0x61#8, 0x61#8, 0x61#8] := by decide +kernel
/-- R221, R95: the session that decodes the two units of "aabbbcc". -/
theorem test_decode_session_commands :
    decodeSession [0xA1#8, 0xE0#8] 5#3 = [.wrcsr 0x08#8 5#32, .ubyte 0xA1#8, .ulast 0xE0#8] := by decide
/-- R222: the session that reloads "aabbbcc". -/
theorem test_reload_session_commands :
    reloadSession abc =
      [.clear, .wrfreq 0x61#8 2#32, .wrfreq 0x62#8 3#32, .wrfreq 0x63#8 2#32, .build] := by decide +kernel

/-! ## Witnesses: states and operands that meet the hypotheses of each statement -/

theorem built_inv {freq : Vector Count 256}
    (h : (buildTree freq State.reset.nodes).nleaves.val ≤ 1 ∨ 256 ≤ (buildTree freq State.reset.nodes).root.val) :
    (built freq).Inv where
  tree := fun _ => ⟨State.reset.nodes, rfl⟩
  codes := fun hcv => by cases hcv
  codesNeedTree := fun hcv => by cases hcv
  cursor := fun _ => ⟨fun _ => rfl, fun hn => by
    have hn' : 2 ≤ (buildTree freq State.reset.nodes).nleaves.val := hn
    exact ⟨by rcases h with h | h <;> [omega; exact h], le_refl _⟩⟩
  packer := show (0#8).toNat < 2 ^ (0#3).toNat by decide
  cause := show (0#4).toNat ≤ 6 by decide

theorem coded_inv {freq : Vector Count 256}
    (h : (buildTree freq State.reset.nodes).nleaves.val ≤ 1 ∨ 256 ≤ (buildTree freq State.reset.nodes).root.val)
    (hg : (genCodes (buildTree freq State.reset.nodes)).isSome = true) : (coded freq).Inv where
  tree := fun _ => ⟨State.reset.nodes, rfl⟩
  codes := fun _ => by
    show genCodes (buildTree freq State.reset.nodes) =
      some ((genCodes (buildTree freq State.reset.nodes)).getD .blank)
    obtain ⟨t, ht⟩ := Option.isSome_iff_exists.1 hg
    simp [ht]
  codesNeedTree := fun _ => rfl
  cursor := (built_inv h).cursor
  packer := show (0#8).toNat < 2 ^ (0#3).toNat by decide
  cause := show (0#4).toNat ≤ 6 by decide

theorem presented_inv {s : State} (h : s.Inv) (w : CmdWord) : (presented s w).Inv :=
  ⟨h.tree, h.codes, h.codesNeedTree, h.cursor, h.packer, h.cause⟩

theorem abc_nleaves : (buildTree abc State.reset.nodes).nleaves = 3 := by decide +kernel
theorem abc_root : (buildTree abc State.reset.nodes).root = 257 := by decide +kernel
theorem abc_codes : (genCodes (buildTree abc State.reset.nodes)).isSome = true := by decide +kernel
theorem aaaa_nleaves : (buildTree aaaa State.reset.nodes).nleaves = 1 := by decide +kernel

theorem abc_built_inv : (built abc).Inv := built_inv (.inr (by rw [abc_root]; decide))
theorem abc_coded_inv : (coded abc).Inv := coded_inv (.inr (by rw [abc_root]; decide)) abc_codes
theorem aaaa_built_inv : (built aaaa).Inv := built_inv (.inl (by rw [aaaa_nleaves]; decide))

theorem wit_DecodeOfEncode : (Instr.wrcsr 0x08#8 7#32).wf = true := by decide
theorem wit_EncodeOfDecode : ∃ i, decode 0x030800000007#48 = .ok i := ⟨_, rfl⟩
theorem wit_TableRowsExclusive : ∃ w : CmdWord, ∃ r₁ ∈ opcodeRows, ∃ r₂ ∈ opcodeRows,
    w &&& r₁.mask = r₁.pattern ∧ w &&& r₂.mask = r₂.pattern :=
  ⟨0x326100000007#48, ⟨"RDCODE", 0x320000000000#48, maskSW⟩, by decide,
    ⟨"RDCODE", 0x320000000000#48, maskSW⟩, by decide, by decide, by decide⟩
theorem wit_StepRunsDecodedCommand :
    (presented State.reset 0x200000000000#48).input = .command 0x200000000000#48 :: [] ∧
      decode 0x200000000000#48 = .ok .build := ⟨rfl, rfl⟩
theorem wit_IdleKeepsState : State.reset.input = [] := rfl
theorem wit_IllegalWordFaults :
    (presented State.reset 0x040000000000#48).input = .command 0x040000000000#48 :: [] ∧
      (∀ i, decode 0x040000000000#48 ≠ .ok i) ∧ (presented State.reset 0x040000000000#48).errCause = 0#4 :=
  ⟨rfl, (fun i h => by cases h), rfl⟩
/-- A legal word and an illegal one. -/
theorem wit_HaltedCoreRefuses :
    haltedCore.errCause ≠ 0#4 ∧
      (presented haltedCore 0x116100000000#48).input = .command 0x116100000000#48 :: [] ∧
      (∀ i, decode 0x116100000000#48 = .ok i → i ≠ .srst ∧ ∀ csr, i ≠ .rdcsr csr) ∧
      (∀ i, decode 0x020A00000000#48 = .ok i → i ≠ .srst ∧ ∀ csr, i ≠ .rdcsr csr) :=
  ⟨by decide, rfl, (fun i h => by cases h; exact ⟨by decide, fun csr hc => by cases hc⟩), (fun i h => by cases h)⟩
/-- SRST, which clears ERR, and NOP, which does not. -/
theorem wit_HaltLeftOnlyByReset :
    (∃ t, step (presented haltedCore 0x010000000000#48) = .next t) ∧
      (∃ t, step (presented haltedCore 0#48) = .next t) ∧ haltedCore.errCause ≠ 0#4 :=
  ⟨⟨_, rfl⟩, ⟨_, rfl⟩, by decide⟩
theorem wit_OneResponsePerCommand : ∃ t, step (presented State.reset 0#48) = .next t := ⟨_, rfl⟩
theorem wit_StreamsOnlyGrow : ∃ t, step { haltedCore with outsym := [0x61#8], input := [.reset] } = .next t := ⟨_, rfl⟩
theorem wit_StreamsNeverReadBack : ∃ t, step (presented haltedCore 0x010000000000#48) = .next t := ⟨_, rfl⟩
/-- A DEND with no tree, and an ULAST that ends mid-path. -/
theorem wit_FaultsArePrecise :
    (∃ t, exec .dend State.reset = .next t ∧ t.errCause = 3#4) ∧
      ∃ t, exec (.ulast 0xE0#8) { built abc with upad := 6#3, cur := 256 } = .next t ∧ t.errCause = 1#4 :=
  ⟨after_eq (by decide), after_eq (by decide +kernel)⟩
theorem wit_FaultsPerCommand :
    Instr.dend.wf = true ∧ State.reset.errCause = 0#4 ∧ ∃ t, exec .dend State.reset = .next t ∧ t.errCause = 3#4 :=
  ⟨rfl, rfl, after_eq (by decide)⟩
theorem wit_WrittenByTable :
    State.reset.errCause = 0#4 ∧ ∃ t, exec (.pbit true) State.reset = .next t ∧ t.errCause = 0#4 :=
  ⟨rfl, after_eq (by decide)⟩
theorem wit_ResetInputResets : { haltedCore with input := [.reset] }.input = .reset :: [] := rfl
theorem wit_StepKeepsInvariant :
    (presented (built abc) 0x300000000000#48).Inv ∧
      ∃ t, step (presented (built abc) 0x300000000000#48) = .next t ∧ t.cv = true :=
  ⟨presented_inv abc_built_inv _, after_eq (by decide +kernel)⟩
theorem wit_StepAlwaysCompletes : (coded abc).Inv := abc_coded_inv
theorem wit_NopChangesNothing : State.reset.errCause = 0#4 ∧ haltedCore.errCause ≠ 0#4 := by decide
theorem wit_RdcsrAnswersViews :
    0x09 < (0x0A#8).toNat ∧ 0x09 < (0xFF#8).toNat ∧ State.reset.errCause = 0#4 ∧ haltedCore.errCause ≠ 0#4 := by decide
/-- The ends of both ranges, a read-only CSR, and data just outside each range. -/
theorem wit_WrcsrWritesControl :
    State.reset.errCause = 0#4 ∧ haltedCore.errCause ≠ 0#4 ∧ (3#32).toNat ≤ 3 ∧ (7#32).toNat ≤ 7 ∧
      (¬ (0x01#8 = 0x00#8 ∧ (0#32).toNat ≤ 3) ∧ ¬ (0x01#8 = 0x08#8 ∧ (0#32).toNat ≤ 7)) ∧
      (¬ (0x00#8 = 0x00#8 ∧ (4#32).toNat ≤ 3) ∧ ¬ (0x00#8 = 0x08#8 ∧ (4#32).toNat ≤ 7)) ∧
      (¬ (0x08#8 = 0x00#8 ∧ (8#32).toNat ≤ 3) ∧ ¬ (0x08#8 = 0x08#8 ∧ (8#32).toNat ≤ 7)) := by decide
theorem wit_ClearEmptiesTable : (counted abc).errCause = 0#4 := rfl
/-- A counter one below its maximum, and one at it. -/
theorem wit_CountTalliesOrOverflows :
    ((State.reset.writeFreq 0x61#8 0xFFFFFFFE#32).readFreq 0x61#8).toNat ≠ 2 ^ 32 - 1 ∧
      ((State.reset.writeFreq 0x61#8 0xFFFFFFFF#32).readFreq 0x61#8).toNat = 2 ^ 32 - 1 ∧
      (State.reset.writeFreq 0x61#8 0xFFFFFFFE#32).errCause = 0#4 := by decide +kernel
theorem wit_WrfreqLoadsEntry : (counted abc).errCause = 0#4 := rfl
theorem wit_RdfreqAnswersCount : (counted abc).errCause = 0#4 := rfl
theorem wit_CountsTallySequence :
    State.reset.errCause = 0#4 ∧
      ∀ sym, (State.reset.readFreq sym).toNat + [0x61#8, 0x61#8].count sym ≤ 2 ^ 32 - 1 :=
  ⟨rfl, fun sym => by
    have h : [0x61#8, 0x61#8].count sym ≤ 2 := List.count_le_length
    have h0 : State.reset.readFreq sym = 0#32 := by simp [State.readFreq, State.reset]
    simp only [h0, BitVec.toNat_ofNat]
    omega⟩
theorem wit_CountOrderIndependent :
    List.Perm [0x61#8, 0x62#8] [0x62#8, 0x61#8] ∧ State.reset.errCause = 0#4 ∧
      (∃ t, countAll [0x61#8, 0x62#8] State.reset = some t ∧ t.errCause = 0#4) ∧
      ∃ t, countAll [0x62#8, 0x61#8] State.reset = some t ∧ t.errCause = 0#4 :=
  ⟨List.Perm.swap _ _ _, rfl, ⟨_, rfl, rfl⟩, ⟨_, rfl, rfl⟩⟩
theorem wit_BuildCompletes : (counted abc).errCause = 0#4 := rfl
/-- BUILD on no symbol, on one, and on three. -/
theorem wit_BuildOutcomes :
    (∃ t, exec .build State.reset = .next t ∧ t.nleaves = 0) ∧
      (∃ t, exec .build (counted aaaa) = .next t ∧ t.nleaves = 1) ∧
      (∃ t, exec .build (counted abc) = .next t ∧ t.nleaves = 3) ∧
      presentCount State.reset.freq = 0 ∧ presentCount aaaa = 1 ∧ 2 ≤ presentCount abc :=
  ⟨after_eq (by decide +kernel), after_eq (by decide +kernel), after_eq (by decide +kernel), by decide +kernel,
    by decide +kernel, by decide +kernel⟩
/-- The last merge of "aabbbcc", k = n − 2 = 1, which creates node 257. -/
theorem wit_BuildMergesTwoLeast :
    (counted abc).errCause = 0#4 ∧ (∃ t, exec .build (counted abc) = .next t ∧ 1 + 2 ≤ t.nleaves.val) ∧
      (257 : NodeIdx).val = 256 + 1 :=
  ⟨rfl, by
    obtain ⟨t, ht, hn⟩ := after_eq (f := (·.nleaves)) (c := 3) (o := exec .build (counted abc)) (by decide +kernel)
    exact ⟨t, ht, by rw [hn]; decide⟩, rfl⟩
theorem wit_BuildGivesStrictBinaryTree :
    ∃ t, exec .build (counted abc) = .next t ∧ t.nleaves = 3 := after_eq (by decide +kernel)
theorem wit_ReachableLeavesArePresent :
    ∃ t, exec .build (counted aaaa) = .next t ∧ t.nleaves = 1 := after_eq (by decide +kernel)
theorem wit_RootWeighsAllCounts :
    ∃ t, exec .build (counted aaaa) = .next t ∧ t.nleaves = 1 := after_eq (by decide +kernel)
/-- Two COREs with equal FREQ and different old arenas. -/
theorem wit_BuildDependsOnFreqAlone :
    (counted abc).freq = { counted abc with nodes := (buildTree abcc State.reset.nodes).nodes }.freq ∧
      (∃ t, exec .build (counted abc) = .next t) ∧
      ∃ t, exec .build { counted abc with nodes := (buildTree abcc State.reset.nodes).nodes } = .next t :=
  ⟨rfl, ⟨_, rfl⟩, ⟨_, rfl⟩⟩
/-- The single-leaf table, the empty path to its root, and the one-leaf tree. -/
theorem wit_BuildIsOptimal :
    ∃ t, exec .build (counted aaaa) = .next t ∧
      (∀ (sym : Symbol) (i : NodeIdx), Present aaaa sym → i.val = sym.toNat → Reaches t.nodes t.root [] i) ∧
      (SymTree.leaf 0x61#8).leaves.Nodup ∧ ∀ sym, sym ∈ (SymTree.leaf 0x61#8).leaves ↔ Present aaaa sym := by
  have hp : ∀ sym : Symbol, Present aaaa sym ↔ sym = 0x61#8 := by
    unfold Present
    decide +kernel
  obtain ⟨t, ht, hr⟩ := after_eq (f := (·.root)) (c := 0x61) (o := exec .build (counted aaaa)) (by decide +kernel)
  refine ⟨t, ht, fun sym i hs hi => ?_, by decide, fun sym => ?_⟩
  · have hs' := (hp sym).1 hs
    subst hs'
    exact Fin.ext (by rw [hr, hi]; decide)
  · rw [hp]
    simp [SymTree.leaves]
theorem wit_GenCompletesOrNoTree :
    State.reset.tv = false ∧ State.reset.errCause = 0#4 ∧ (built abc).Inv ∧ (built abc).tv = true ∧
      (built abc).errCause = 0#4 := ⟨rfl, rfl, abc_built_inv, rfl, rfl⟩
/-- "aabbbcc" for the normal tree and an absent symbol, "aaaa" for the single leaf. -/
theorem wit_GenCodesArePaths :
    (built abc).Inv ∧ (built aaaa).Inv ∧
      (∃ t, exec .gen (built abc) = .next t ∧ t.readCode 0x61#8 = [true, false]) ∧
      (∃ t, exec .gen (built aaaa) = .next t ∧ t.readCode 0x61#8 = [true]) ∧
      2 ≤ (built abc).nleaves.val ∧ (built aaaa).nleaves.val = 1 ∧ Present aaaa 0x61#8 ∧ ¬ Present abc 0x7A#8 :=
  ⟨abc_built_inv, aaaa_built_inv, after_eq (by decide +kernel), after_eq (by decide +kernel), by
    show 2 ≤ (buildTree abc State.reset.nodes).nleaves.val
    rw [abc_nleaves]; decide, by
    show (buildTree aaaa State.reset.nodes).nleaves.val = 1
    rw [aaaa_nleaves]; decide, by unfold Present; decide +kernel, by unfold Present; decide +kernel⟩
theorem wit_PresentSymbolsGetCodes :
    (built abc).Inv ∧ (∃ t, exec .gen (built abc) = .next t ∧ t.cv = true) ∧ Present abc 0x61#8 :=
  ⟨abc_built_inv, after_eq (by decide +kernel), by unfold Present; decide +kernel⟩
theorem wit_CodesArePrefixFree :
    (coded abc).Inv ∧ (coded abc).cv = true ∧ Present abc 0x61#8 ∧ Present abc 0x63#8 ∧ 0x61#8 ≠ 0x63#8 :=
  ⟨abc_coded_inv, rfl, by unfold Present; decide +kernel, by unfold Present; decide +kernel, by decide⟩
theorem wit_RdclenAnswersLength : (coded abc).cv = true ∧ State.reset.cv = false ∧ (coded abc).errCause = 0#4 :=
  ⟨rfl, rfl, rfl⟩
theorem wit_RdcodeAnswersBits : (coded abc).cv = true ∧ State.reset.cv = false ∧ (coded abc).errCause = 0#4 :=
  ⟨rfl, rfl, rfl⟩
/-- CV = 0; a symbol with no code; a coded symbol with either value of EPK. -/
theorem wit_EncEmitsCode :
    State.reset.cv = false ∧ (coded abc).readClen 0x7A#8 = 0#8 ∧ (coded abc).readClen 0x61#8 ≠ 0#8 ∧
      (coded abc).cv = true ∧ (coded abc).epk = true ∧ { coded abc with epk := false }.epk = false :=
  ⟨rfl, by decide +kernel, by decide +kernel, rfl, rfl, rfl⟩
theorem wit_PbitShiftsIn :
    State.reset.pn.toNat ≠ 7 ∧ { State.reset with pn := 7#3 }.pn.toNat = 7 ∧ State.reset.errCause = 0#4 := by decide
theorem wit_PflushPadsAndRecords :
    State.reset.pn.toNat = 0 ∧ { State.reset with pn := 7#3 }.pn.toNat ≠ 0 ∧ State.reset.errCause = 0#4 := by decide
theorem wit_PackerAppendsPack : State.reset.errCause = 0#4 ∧ State.reset.pn = 0#3 := ⟨rfl, rfl⟩
theorem wit_UnpackInvertsPack :
    State.reset.pn = 0#3 ∧ State.reset.outbyte = [] ∧
      ∃ t, exec .pflush ([true, false, true].foldl packBit State.reset) = .next t ∧ t.outbyte = [0xA0#8] :=
  ⟨rfl, rfl, after_eq (by decide)⟩
/-- UDC = 0; no tree; the empty tree; a tree. -/
theorem wit_UbyteDeliversEightBits :
    { State.reset with udc := false }.udc = false ∧
      (State.reset.udc = true ∧ State.reset.tv = false) ∧
      (built State.reset.freq).tv = true ∧ (built State.reset.freq).nleaves = 0 ∧
      (built abc).udc = true ∧ (built abc).tv = true ∧ (built abc).nleaves ≠ 0 :=
  ⟨rfl, ⟨rfl, rfl⟩, rfl, by decide +kernel, rfl, rfl, by decide +kernel⟩
/-- UDC = 0; no tree; the empty tree; a single leaf; a normal tree that ends at ROOT (P1 line 21: UPAD 5, CUR 256, byte
0xE0), and one that ends mid-path (V-DEC-6: UPAD 6). -/
theorem wit_UlastStripsPadAndEnds :
    { State.reset with udc := false }.udc = false ∧
      (State.reset.udc = true ∧ State.reset.tv = false) ∧
      ((built State.reset.freq).tv = true ∧ (built State.reset.freq).nleaves = 0) ∧
      ((built aaaa).tv = true ∧ (built aaaa).nleaves = 1) ∧ 2 ≤ (built abc).nleaves.val ∧
      ([true, true, true].foldl decBit { built abc with upad := 5#3, cur := 256 }).cur = (built abc).root ∧
      ([true, true].foldl decBit { built abc with upad := 6#3, cur := 256 }).cur ≠ (built abc).root ∧
      (List.range (8 - (5#3).toNat)).map (fun j => (0xE0#8).getLsbD (7 - j)) = [true, true, true] :=
  ⟨rfl, ⟨rfl, rfl⟩, ⟨rfl, by decide +kernel⟩, ⟨rfl, by decide +kernel⟩, by decide +kernel, by decide +kernel,
    by decide +kernel, by decide⟩
/-- No tree; the empty tree; a single leaf; a normal tree whose next node is a leaf, and one whose next node is
internal. -/
theorem wit_DbitMovesCursor :
    State.reset.tv = false ∧ ((built State.reset.freq).tv = true ∧ (built State.reset.freq).nleaves = 0) ∧
      (built aaaa).nleaves = 1 ∧ 2 ≤ (built abc).nleaves.val ∧
      ((built abc).readNode (built abc).cur).left.val < 256 ∧
      256 ≤ ((built abc).readNode (built abc).cur).right.val :=
  ⟨rfl, ⟨rfl, by decide +kernel⟩, by decide +kernel, by decide +kernel, by decide +kernel, by decide +kernel⟩
theorem wit_DendEndsStream :
    State.reset.tv = false ∧ ((built State.reset.freq).tv = true ∧ (built State.reset.freq).nleaves = 0) ∧
      (built aaaa).nleaves = 1 ∧ 2 ≤ (built abc).nleaves.val ∧ (built abc).cur = (built abc).root ∧
      { built abc with cur := 256 }.cur ≠ (built abc).root :=
  ⟨rfl, ⟨rfl, by decide +kernel⟩, by decide +kernel, by decide +kernel, rfl, by decide +kernel⟩
theorem wit_DecodeInvertsEncode :
    (coded abc).Inv ∧ (coded abc).cv = true ∧ 2 ≤ (coded abc).nleaves.val ∧ (coded abc).cur = (coded abc).root ∧
      ∀ sym ∈ [0x61#8, 0x62#8, 0x63#8], Present (coded abc).freq sym :=
  ⟨abc_coded_inv, rfl, by decide +kernel, rfl, by
    show ∀ sym ∈ [0x61#8, 0x62#8, 0x63#8], Present abc sym
    unfold Present
    decide +kernel⟩
theorem wit_SingleLeafDecodesRun : (built aaaa).Inv ∧ (built aaaa).tv = true ∧ (built aaaa).nleaves = 1 :=
  ⟨aaaa_built_inv, rfl, by decide +kernel⟩
theorem reset_readFreq (sym : Symbol) : State.reset.readFreq sym = 0#32 := by
  simp [State.readFreq, State.reset]
theorem count_aabbbcc_le (sym : Symbol) : aabbbcc.count sym ≤ 2 ^ 32 - 1 := by
  have h : aabbbcc.count sym ≤ 7 := List.count_le_length
  omega
theorem wit_EmptyInputGivesEmptyOutput :
    State.reset.errCause = 0#4 ∧ (∀ sym, State.reset.readFreq sym = 0#32) ∧ State.reset.pn = 0#3 :=
  ⟨rfl, reset_readFreq, rfl⟩
theorem wit_DecodeSessionInvertsEncodeOnBits :
    State.reset.errCause = 0#4 ∧ (∀ sym, State.reset.readFreq sym = 0#32) ∧
      ∀ sym, aabbbcc.count sym ≤ 2 ^ 32 - 1 :=
  ⟨rfl, reset_readFreq, count_aabbbcc_le⟩
/-- The other CORE holds the tree of another input. -/
theorem wit_SessionsRoundTripThroughPacker :
    State.reset.errCause = 0#4 ∧ State.reset.pn = 0#3 ∧ State.reset.epk = true ∧ State.reset.udc = true ∧
      (built aaaa).errCause = 0#4 ∧ (built aaaa).udc = true ∧ ∀ sym, aabbbcc.count sym ≤ 2 ^ 32 - 1 :=
  ⟨rfl, rfl, rfl, rfl, rfl, rfl, count_aabbbcc_le⟩
/-- A COUNT that changes FREQ, and a BUILD that changes the tree. -/
theorem wit_StaleTablesAreMarked :
    (∃ t, step (presented State.reset 0x116100000000#48) = .next t ∧ t.readFreq 0x61#8 = 1#32) ∧
      ∃ t, step (presented (counted aaaa) 0x200000000000#48) = .next t ∧ t.root = 0x61 :=
  ⟨after_eq (by decide +kernel), after_eq (by decide +kernel)⟩

end Sys2Proof.Tests
end

/-! PROOFS, 00_scope: a step answers a next state (R16). The one way to stop is `malformedTree`, so the key fact is that
BUILD's arena is a tree no deeper than GEN's 255 levels: every internal record has children of smaller index. -/

namespace Sys2Proof.Machine

/-! ## Merges (41_tree_builder R121, R126) -/

/-- One merge: with two live nodes or more, two of them are taken out and the node that joins them is put in. -/
theorem mergeLoop_succ (m k : Nat) (nodes : Vector Node 511) {live : List NodeIdx} (h : 2 ≤ live.length) :
    ∃ x y, x ∈ live ∧ y ∈ live.erase x ∧
      mergeLoop (m + 1) k nodes live =
        mergeLoop m (k + 1) (nodes.set (internalIdx k) (mergedNode nodes x y))
          (internalIdx k :: (live.erase x).erase y) := by
  have hne : live ≠ [] := List.ne_nil_of_length_pos (by omega)
  obtain ⟨⟨x, live1⟩, hx⟩ := Option.isSome_iff_exists.1 (extractMin_isSome (nodes := nodes) hne)
  obtain ⟨hxm, rfl⟩ := extractMin_some hx
  have hne1 : live.erase x ≠ [] := List.ne_nil_of_length_pos (by rw [List.length_erase_of_mem hxm]; omega)
  obtain ⟨⟨y, live2⟩, hy⟩ := Option.isSome_iff_exists.1 (extractMin_isSome (nodes := nodes) hne1)
  obtain ⟨hym, rfl⟩ := extractMin_some hy
  exact ⟨x, y, hxm, hym, by simp [mergeLoop, hx, hy]⟩

/-- The first `k` internal records have children of smaller index than their own. -/
def ChildrenBelow (nodes : Vector Node 511) (k : Nat) : Prop :=
  ∀ p : NodeIdx, 256 ≤ p.val → p.val < 256 + k → (nodes[p]).left < p ∧ (nodes[p]).right < p

/-- A merge of two nodes made before it keeps children below their parent. -/
theorem childrenBelow_set_merged {nodes : Vector Node 511} {k : Nat} {x y : NodeIdx} (hk : k ≤ 254)
    (h : ChildrenBelow nodes k) (hx : x.val < 256 + k) (hy : y.val < 256 + k) :
    ChildrenBelow (nodes.set (internalIdx k) (mergedNode nodes x y)) (k + 1) := by
  intro p hp hpk
  have hv := internalIdx_val hk
  by_cases hnew : p.val = 256 + k
  · obtain rfl : p = internalIdx k := Fin.ext (by omega)
    simp only [Fin.getElem_fin, Vector.getElem_set_self, mergedNode, Fin.lt_def]
    omega
  · have hold : (nodes.set (internalIdx k) (mergedNode nodes x y))[p] = nodes[p] :=
      Vector.getElem_set_ne _ _ (by omega)
    rw [hold]
    exact h p hp (by omega)

/-- Merges keep children below their parent, as long as every live node was made before. -/
theorem mergeLoop_childrenBelow (m k : Nat) (nodes : Vector Node 511) (live : List NodeIdx)
    (hk : k + m ≤ 255) (hlen : m < live.length) (hlive : ∀ i ∈ live, i.val < 256 + k)
    (h : ChildrenBelow nodes k) : ChildrenBelow (mergeLoop m k nodes live) (k + m) := by
  induction m generalizing k nodes live with
  | zero => exact h
  | succ m ih =>
    obtain ⟨x, y, hx, hy, hloop⟩ := mergeLoop_succ m k nodes (show 2 ≤ live.length by omega)
    rw [hloop, show k + (m + 1) = k + 1 + m by omega]
    refine ih _ _ _ (by omega) ?_ ?_
      (childrenBelow_set_merged (by omega) h (hlive x hx) (hlive y (List.mem_of_mem_erase hy)))
    · rw [List.length_cons, List.length_erase_of_mem hy, List.length_erase_of_mem hx]
      omega
    · intro i hi
      rcases List.mem_cons.1 hi with rfl | hi
      · rw [internalIdx_val (by omega)]
        omega
      · have := hlive i (List.mem_of_mem_erase (List.mem_of_mem_erase hi))
        omega

/-! ## The built tree (10_state R25, R26) -/

theorem mem_seedLive_lt {freq : Vector Count 256} {i : NodeIdx} (h : i ∈ seedLive freq) : i.val < 256 := by
  obtain ⟨sym, -, rfl⟩ := mem_seedLive.1 h
  exact sym.isLt

@[simp] theorem buildTree_nleaves_val (freq : Vector Count 256) (old : Vector Node 511) :
    (buildTree freq old).nleaves.val = (seedLive freq).length :=
  Nat.mod_eq_of_lt (Nat.lt_succ_of_le (seedLive_length_le freq))

/-- With one leaf the root is that leaf (41_tree_builder R125). -/
theorem buildTree_root_lt {freq : Vector Count 256} {old : Vector Node 511}
    (h : (seedLive freq).length = 1) : (buildTree freq old).root.val < 256 := by
  obtain ⟨i, hi⟩ := List.length_eq_one_iff.1 h
  simpa [buildTree, hi, rootOf] using mem_seedLive_lt (freq := freq) (i := i) (by simp [hi])

/-- With two leaves or more the root is the last internal node (41_tree_builder R121). -/
theorem buildTree_root_val {freq : Vector Count 256} {old : Vector Node 511}
    (h : 2 ≤ (seedLive freq).length) : (buildTree freq old).root.val = 256 + ((seedLive freq).length - 2) := by
  have hle := seedLive_length_le freq
  rw [← internalIdx_val (show (seedLive freq).length - 2 ≤ 254 by omega), buildTree]
  match seedLive freq, h with
  | i :: j :: rest, _ => rfl

theorem buildTree_childrenBelow (freq : Vector Count 256) (old : Vector Node 511)
    (h : 1 ≤ (seedLive freq).length) :
    ChildrenBelow (buildTree freq old).nodes ((seedLive freq).length - 1) := by
  have hle := seedLive_length_le freq
  rw [← Nat.zero_add ((seedLive freq).length - 1)]
  exact mergeLoop_childrenBelow _ 0 _ _ (by omega) (by omega) (fun i hi => mem_seedLive_lt hi)
    (fun p hp hlt => by omega)

/-! ## GEN on a built tree (42_code_generator R141) -/

/-- The bound of the walk: node 256 + j is at most j + 1 levels above the leaves, because indices fall on the way
down. -/
theorem exists_walk_of_childrenBelow {nodes : Vector Node 511} {k : Nat} (h : ChildrenBelow nodes k)
    (depth : Nat) (i : NodeIdx) (path : List Bool) (hk : i.val < 256 + k) (hd : i.val < 256 + depth) :
    ∃ leaves, walk nodes depth i path = some leaves := by
  induction depth generalizing i path with
  | zero => exact ⟨_, walk_leaf nodes 0 hd path⟩
  | succ depth ih =>
    by_cases hi : i.val < 256
    · exact ⟨_, walk_leaf nodes _ hi path⟩
    · obtain ⟨hl, hr⟩ := h i (by omega) hk
      rw [Fin.lt_def] at hl hr
      obtain ⟨l, hwl⟩ := ih (nodes[i]).left (path ++ [false]) (by omega) (by omega)
      obtain ⟨r, hwr⟩ := ih (nodes[i]).right (path ++ [true]) (by omega) (by omega)
      exact ⟨l ++ r, by simp only [walk, hi, if_false, hwl, hwr]⟩

/-- BUILD's tree is never malformed: GEN has code tables for it (log entry 2). -/
theorem exists_genCodes_buildTree (freq : Vector Count 256) (old : Vector Node 511) :
    ∃ tables, genCodes (buildTree freq old) = some tables := by
  have hn := buildTree_nleaves_val freq old
  have hle := seedLive_length_le freq
  unfold genCodes
  split
  · exact ⟨_, rfl⟩
  · next h0 =>
    split
    · next h1 =>
      rw [if_pos (buildTree_root_lt (by rw [← hn, h1]; rfl))]
      exact ⟨_, rfl⟩
    · next h1 =>
      have h2 : 2 ≤ (seedLive freq).length := by omega
      have hroot := buildTree_root_val (old := old) h2
      obtain ⟨leaves, hw⟩ := exists_walk_of_childrenBelow (buildTree_childrenBelow freq old (by omega))
        Config.maxClen (buildTree freq old).root [] (by omega) (by rw [hroot, Config.maxClen]; omega)
      rw [hw]
      exact ⟨_, rfl⟩

/-! ## Bodies that do not stop (00_scope R15, R16) -/

/-- A command's pseudocode met no state for which the spec has no behaviour. -/
def CmdResult.Completes (r : CmdResult) : Prop := ∀ f, r ≠ .stop f

@[simp] theorem CmdResult.completes_done (s : State) (rdata : BitVec 32) : (CmdResult.done s rdata).Completes :=
  fun _ h => by cases h

@[simp] theorem CmdResult.completes_raise (c : Cause) (s : State) : (CmdResult.raise c s).Completes :=
  fun _ h => by cases h

theorem runAlways_completes {i : Instr} {body : State → CmdResult} {s : State} (h : (body s).Completes) :
    ∃ t, runAlways i body s = .next t := by
  unfold runAlways
  cases hb : body s with
  | done s' rdata => exact ⟨_, rfl⟩
  | raise c s' => exact ⟨_, rfl⟩
  | stop f => exact absurd hb (h f)

theorem runCommand_completes {i : Instr} {body : State → CmdResult} {s : State} (h : (body s).Completes) :
    ∃ t, runCommand i body s = .next t := by
  unfold runCommand
  split
  · exact ⟨_, rfl⟩
  · exact runAlways_completes h

/-- GEN's tree is a BUILD's (10_state R31), so it has codes. -/
theorem genBody_completes {s : State} (h : s.Inv) : (genBody s).Completes := by
  unfold genBody
  split
  · next htv =>
    obtain ⟨old, hold⟩ := h.tree htv
    obtain ⟨tables, ht⟩ := exists_genCodes_buildTree s.freq old
    simp [hold, ht]
  · simp

theorem countBody_completes (sym : Symbol) (s : State) : (countBody sym s).Completes := by
  unfold countBody
  split <;> simp

theorem encBody_completes (sym : Symbol) (s : State) : (encBody sym s).Completes := by
  unfold encBody
  split <;> simp

theorem decEnd_completes (s : State) : (decEnd s).Completes := by
  rcases decEnd_cases s with ⟨-, h⟩ | ⟨-, h⟩ | ⟨-, -, -, h⟩ | ⟨-, -, -, h⟩ <;> simp [h]

theorem ubyteBody_completes (byte : Byte) (s : State) : (ubyteBody byte s).Completes := by
  unfold ubyteBody
  split <;> simp

theorem ulastBody_completes (byte : Byte) (s : State) : (ulastBody byte s).Completes := by
  unfold ulastBody
  split
  · simp
  · dsimp only
    split
    · exact decEnd_completes _
    · simp

/-! ## Commands and steps -/

/-- Every command has a next state where the invariant holds. -/
theorem exec_completes {s : State} (h : s.Inv) (i : Instr) : ∃ t, exec i s = .next t := by
  cases i with
  | nop | clear | rdfreq _ | build | pbit _ | pflush =>
    simp only [exec, execNop, execClear, execRdfreq, execBuild, execPbit, execPflush]
    exact runCommand_completes (CmdResult.completes_done _ _)
  | srst =>
    simp only [exec, execSrst]
    exact runAlways_completes (CmdResult.completes_done _ _)
  | rdcsr csr =>
    simp only [exec, execRdcsr]
    split
    · exact runAlways_completes (by simp)
    · exact runCommand_completes (by simp)
  | wrcsr _ _ | wrfreq _ _ | rdclen _ | rdcode _ _ | dbit _ =>
    simp only [exec, execWrcsr, execWrfreq, execRdclen, execRdcode, execDbit]
    refine runCommand_completes ?_
    split <;> simp
  | count sym => exact runCommand_completes (countBody_completes sym s)
  | gen => exact runCommand_completes (genBody_completes h)
  | enc sym => exact runCommand_completes (encBody_completes sym s)
  | ubyte byte => exact runCommand_completes (ubyteBody_completes byte s)
  | ulast byte => exact runCommand_completes (ulastBody_completes byte s)
  | dend =>
    simp only [exec, execDend]
    refine runCommand_completes ?_
    split
    · simp
    · exact decEnd_completes s

/-- The invariant says nothing of the inputs still to be taken. -/
theorem State.Inv.withInput {s : State} (h : s.Inv) (rest : List HostInput) : { s with input := rest }.Inv :=
  ⟨h.tree, h.codes, h.codesNeedTree, h.cursor, h.packer, h.cause⟩

theorem step_of_command {s : State} {w : CmdWord} {rest : List HostInput} {i : Instr}
    (hin : s.input = .command w :: rest) (hd : decode w = .ok i) : step s = exec i { s with input := rest } := by
  simp [step, fetch, hin, hd]

/-- Everything a step can be: idle, a reset, an illegal word, or a command (60_exceptions R245, 70_reset R270). -/
theorem step_cases (s : State) :
    (s.input = [] ∧ step s = .next s) ∨
      (∃ rest, s.input = .reset :: rest ∧ step s = .next { s.toReset with input := rest }) ∨
      (∃ w rest, s.input = .command w :: rest ∧ (∀ i, decode w ≠ .ok i) ∧
        step s = .next ({ s with input := rest }.illegalWord w)) ∨
      ∃ w rest i, s.input = .command w :: rest ∧ decode w = .ok i ∧ step s = exec i { s with input := rest } := by
  match hin : s.input with
  | [] => exact .inl ⟨rfl, by simp [step, fetch, hin]⟩
  | .reset :: rest => exact .inr (.inl ⟨rest, rfl, by simp [step, fetch, hin]⟩)
  | .command w :: rest =>
    cases hd : decode w with
    | error e => exact .inr (.inr (.inl ⟨w, rest, rfl, by simp [hd], by simp [step, fetch, hin, hd]⟩))
    | ok i => exact .inr (.inr (.inr ⟨w, rest, i, rfl, hd, step_of_command hin hd⟩))

/-- Settles O21: an idle step, a reset and an illegal word settle at once, and a command completes because GEN, the
only one that can stop, meets a built tree. -/
theorem stepAlwaysCompletes : Obligations.StepAlwaysCompletes := by
  intro s hinv
  rcases step_cases s with ⟨-, h⟩ | ⟨rest, -, h⟩ | ⟨w, rest, -, -, h⟩ | ⟨w, rest, i, -, -, h⟩
  · exact ⟨_, h⟩
  · exact ⟨_, h⟩
  · exact ⟨_, h⟩
  · rw [h]
    exact exec_completes (hinv.withInput rest) i

/-- Settles O6: the command branch of `fetch`. -/
theorem stepRunsDecodedCommand : Obligations.StepRunsDecodedCommand :=
  fun _ _ _ _ hin hd => step_of_command hin hd

end Sys2Proof.Machine

/-! PROOFS, 10_state, what a command writes (R20): the pseudocode of every command under one dispatch procedure, and
what it leaves when it completes or faults. The claims about single steps are read off from here. -/

namespace Sys2Proof.Machine

/-! ## The dispatch procedure, said once for all commands (60_exceptions R245) -/

/-- The pseudocode of every command, as its meaning hands it to the dispatch procedure. -/
def cmdBody (i : Instr) (s : State) : CmdResult :=
  match i with
  | .nop => .done s 0#32
  | .srst => .done s.toReset 0#32
  | .rdcsr csr =>
    match s.csrView csr with
    | some v => .done s v
    | none => .raise .illegalCommand s
  | .wrcsr csr data =>
    match s.csrWrite csr data with
    | some s' => .done s' 0#32
    | none => .raise .illegalCommand s
  | .clear => .done { s with freq := Vector.replicate 256 0#32 }.invalidate 0#32
  | .count sym => countBody sym s
  | .wrfreq sym cnt =>
    if countFits Config.cntw cnt then .done (s.writeFreq sym cnt).invalidate 0#32 else .raise .illegalCommand s
  | .rdfreq sym => .done s (s.readFreq sym)
  | .build => .done (s.writeTree (buildTree s.freq s.nodes)).treePublished 0#32
  | .gen => genBody s
  | .rdclen sym => if s.cv then .done s ((s.readClen sym).setWidth 32) else .raise .noCode s
  | .rdcode sym w => if s.cv then .done s (codeWord (s.readCode sym) w) else .raise .noCode s
  | .enc sym => encBody sym s
  | .pbit bit => .done (packBit s bit) 0#32
  | .pflush => .done (flushed s) 0#32
  | .ubyte byte => ubyteBody byte s
  | .ulast byte => ulastBody byte s
  | .dbit bit =>
    match decCheck 1 s with
    | some c => .raise c s
    | none => .done (decBit s bit) 0#32
  | .dend =>
    match decCheck 0 s with
    | some c => .raise c s
    | none => decEnd s

/-- The commands that a halted CORE still runs: SRST and a legal RDCSR (R245). -/
def runsHalted (i : Instr) (s : State) : Bool :=
  match i with
  | .srst => true
  | .rdcsr csr => (s.csrView csr).isSome
  | _ => false

/-- Every command is its pseudocode under the dispatch procedure. -/
theorem exec_eq (i : Instr) (s : State) :
    exec i s = if runsHalted i s then runAlways i (cmdBody i) s else runCommand i (cmdBody i) s := by
  cases i with
  | rdcsr csr =>
    cases hv : s.csrView csr <;> simp [exec, execRdcsr, runsHalted, runAlways, runCommand, cmdBody, hv]
  | _ => rfl

/-- A command that a halted CORE still runs raises no fault. -/
theorem cmdBody_of_runsHalted {i : Instr} {s : State} (h : runsHalted i s = true) :
    ∃ s' v, cmdBody i s = .done s' v := by
  cases i with
  | srst => exact ⟨_, _, rfl⟩
  | rdcsr csr =>
    obtain ⟨v, hv⟩ := Option.isSome_iff_exists.1 h
    exact ⟨s, v, by simp [cmdBody, hv]⟩
  | _ => cases h

/-- Everything a command can answer with a next state: the Halted response, completion, or fault entry. -/
theorem exec_next {i : Instr} {s t : State} (h : exec i s = .next t) :
    (s.errCause ≠ 0#4 ∧ t = s.refuseHalted) ∨
      ((s.errCause = 0#4 ∨ runsHalted i s = true) ∧ ∃ s' v, cmdBody i s = .done s' v ∧ t = s'.respond statOk v) ∨
      (s.errCause = 0#4 ∧ ∃ c s', cmdBody i s = .raise c s' ∧ t = s'.faultEntry c i.opc i.aField) := by
  rw [exec_eq] at h
  split at h
  · next hr =>
    obtain ⟨s', v, hb⟩ := cmdBody_of_runsHalted hr
    rw [runAlways, hb] at h
    cases h
    exact .inr (.inl ⟨.inr hr, s', v, hb, rfl⟩)
  · rcases runCommand_next h with hhalt | ⟨h0, hdone | hraise⟩
    · exact .inl hhalt
    · exact .inr (.inl ⟨.inl h0, hdone⟩)
    · exact .inr (.inr ⟨h0, hraise⟩)

/-! ## What a command writes (10_state R20) -/

/-- PFLUSH writes PADLEN, PACC, PN and OUTBYTE and nothing else. -/
theorem flushed_only (s : State) :
    flushed s = { s with
      padlen := (flushed s).padlen, pacc := (flushed s).pacc, pn := (flushed s).pn,
      outbyte := (flushed s).outbyte } := by
  unfold flushed
  split <;> rfl

/-- DeliverBit writes CUR, OUTSYM and OUTBIT and nothing else. -/
theorem foldl_deliverBit_only (bits : List Bool) (s : State) :
    ∃ cur outsym outbit,
      bits.foldl deliverBit s = { s with cur := cur, outsym := outsym, outbit := outbit } := by
  rcases Bool.eq_false_or_eq_true s.udc with hu | hu
  · rw [foldl_deliverBit_udc hu, foldl_decBit_only]
    exact ⟨_, _, s.outbit, rfl⟩
  · rw [foldl_deliverBit_outbit hu]
    exact ⟨s.cur, s.outsym, _, rfl⟩

/-- EmitCodeBit writes PACC, PN, OUTBYTE and OUTBIT and nothing else. -/
theorem foldl_emitCodeBit_only (bits : List Bool) (s : State) :
    ∃ pacc pn outbyte outbit,
      bits.foldl emitCodeBit s =
        { s with pacc := pacc, pn := pn, outbyte := outbyte, outbit := outbit } := by
  rcases Bool.eq_false_or_eq_true s.epk with he | he
  · rw [foldl_emitCodeBit_epk he, foldl_packBit_only]
    exact ⟨_, _, _, s.outbit, rfl⟩
  · rw [foldl_emitCodeBit_outbit he]
    exact ⟨s.pacc, s.pn, s.outbyte, _, rfl⟩

/-- What a command that completed left: the fields that R20's column "written by" gives it, and no other. -/
def CompletedEffect (i : Instr) (s s' : State) : Prop :=
  match i with
  | .nop | .rdcsr _ | .rdfreq _ | .rdclen _ | .rdcode _ _ => s' = s
  | .srst => s' = s.toReset
  | .wrcsr _ _ => ∃ upad epk udc, s' = { s with upad := upad, epk := epk, udc := udc }
  | .clear | .count _ | .wrfreq _ _ => ∃ freq, s' = { s with freq := freq }.invalidate
  | .build => s' = (s.writeTree (buildTree s.freq s.nodes)).treePublished
  | .gen => s.tv = true ∧ ∃ tables, genCodes s.tree = some tables ∧ s' = (s.writeCodes tables).codesPublished
  | .enc _ => ∃ pacc pn outbyte outbit,
      s' = { s with pacc := pacc, pn := pn, outbyte := outbyte, outbit := outbit }
  | .pbit _ => ∃ pacc pn outbyte, s' = { s with pacc := pacc, pn := pn, outbyte := outbyte }
  | .pflush => ∃ padlen pacc pn outbyte,
      s' = { s with padlen := padlen, pacc := pacc, pn := pn, outbyte := outbyte }
  | .ubyte _ | .ulast _ => ∃ cur outsym outbit, s' = { s with cur := cur, outsym := outsym, outbit := outbit }
  | .dbit _ => ∃ cur outsym, s' = { s with cur := cur, outsym := outsym }
  | .dend => ∃ outsym, s' = { s with outsym := outsym }

theorem csrWrite_some {s s' : State} {csr : BitVec 8} {data : BitVec 32} (h : s.csrWrite csr data = some s') :
    ∃ upad epk udc, s' = { s with upad := upad, epk := epk, udc := udc } := by
  unfold State.csrWrite at h
  split at h
  · split at h
    · cases h; exact ⟨_, _, _, rfl⟩
    · cases h
  · split at h
    · split at h
      · cases h; exact ⟨_, _, _, rfl⟩
      · cases h
    · cases h

theorem countBody_done {sym : Symbol} {s s' : State} {v : BitVec 32} (h : countBody sym s = .done s' v) :
    s' = (s.writeFreq sym (s.readFreq sym + 1#32)).invalidate := by
  unfold countBody at h
  split at h
  · cases h
  · cases h; rfl

theorem genBody_done {s s' : State} {v : BitVec 32} (h : genBody s = .done s' v) :
    s.tv = true ∧ ∃ tables, genCodes s.tree = some tables ∧ s' = (s.writeCodes tables).codesPublished := by
  unfold genBody at h
  split at h
  · next htv =>
    split at h
    · next tables ht => cases h; exact ⟨htv, tables, ht, rfl⟩
    · cases h
  · cases h

theorem encBody_done {sym : Symbol} {s s' : State} {v : BitVec 32} (h : encBody sym s = .done s' v) :
    s' = (s.readCode sym).foldl emitCodeBit s := by
  unfold encBody at h
  split at h
  · cases h
  · cases h; rfl

theorem decEnd_done {s s' : State} {v : BitVec 32} (h : decEnd s = .done s' v) :
    ∃ outsym, s' = { s with outsym := outsym } := by
  rcases decEnd_cases s with ⟨-, hd⟩ | ⟨-, hd⟩ | ⟨-, -, -, hd⟩ | ⟨-, -, -, hd⟩ <;> rw [hd] at h <;> cases h
  · exact ⟨_, rfl⟩
  · exact ⟨_, rfl⟩
  · exact ⟨_, rfl⟩

theorem ubyteBody_done {byte : Byte} {s s' : State} {v : BitVec 32} (h : ubyteBody byte s = .done s' v) :
    unpackCheck 8 s = none ∧ s' = (unitBits byte 0).foldl deliverBit s := by
  unfold ubyteBody at h
  split at h
  · cases h
  · next hc => cases h; exact ⟨hc, rfl⟩

/-- ULAST ends with the state its data bits leave, its end-of-stream check apart (44_bit_unpacker R173). -/
theorem ulastBody_done {byte : Byte} {s s' : State} {v : BitVec 32} (h : ulastBody byte s = .done s' v) :
    unpackCheck (8 - s.upad.toNat) s = none ∧
      ∃ outsym, s' = { (unitBits byte s.upad.toNat).foldl deliverBit s with outsym := outsym } := by
  unfold ulastBody at h
  split at h
  · cases h
  · next hc =>
    refine ⟨hc, ?_⟩
    dsimp only at h
    split at h
    · exact decEnd_done h
    · cases h; exact ⟨_, rfl⟩

theorem cmdBody_done {i : Instr} {s s' : State} {v : BitVec 32} (h : cmdBody i s = .done s' v) :
    CompletedEffect i s s' := by
  cases i with
  | nop | srst | rdfreq _ | build => cases h; rfl
  | clear => cases h; exact ⟨_, rfl⟩
  | rdcsr _ | rdclen _ | rdcode _ _ =>
    simp only [cmdBody] at h
    split at h <;> cases h
    rfl
  | wrcsr csr data =>
    simp only [cmdBody] at h
    split at h <;> cases h
    next hw => exact csrWrite_some hw
  | count sym => exact ⟨_, countBody_done h⟩
  | wrfreq sym cnt =>
    simp only [cmdBody] at h
    split at h <;> cases h
    exact ⟨_, rfl⟩
  | gen => exact genBody_done h
  | enc sym =>
    rw [encBody_done h]
    exact foldl_emitCodeBit_only _ _
  | pbit bit => cases h; exact ⟨_, _, _, packBit_only s bit⟩
  | pflush => cases h; exact ⟨_, _, _, _, flushed_only s⟩
  | ubyte byte =>
    obtain ⟨-, rfl⟩ := ubyteBody_done h
    exact foldl_deliverBit_only _ _
  | ulast byte =>
    obtain ⟨-, outsym, rfl⟩ := ulastBody_done h
    obtain ⟨cur, _, outbit, hf⟩ := foldl_deliverBit_only (unitBits byte s.upad.toNat) s
    exact ⟨cur, outsym, outbit, by rw [hf]⟩
  | dbit bit =>
    simp only [cmdBody] at h
    split at h <;> cases h
    exact ⟨_, _, decBit_only s bit⟩
  | dend =>
    simp only [cmdBody] at h
    split at h
    · cases h
    · exact decEnd_done h

/-! ## Faults (60_exceptions R247) -/

theorem decEnd_raise {c : Cause} {s s' : State} (h : decEnd s = .raise c s') : s' = s := by
  rcases decEnd_cases s with ⟨-, hd⟩ | ⟨-, hd⟩ | ⟨-, -, -, hd⟩ | ⟨-, -, -, hd⟩ <;> rw [hd] at h <;> cases h
  rfl

/-- ULAST's faults: at the check nothing has moved, at the end of the stream the data bits have. -/
theorem ulastBody_raise {byte : Byte} {c : Cause} {s s' : State} (h : ulastBody byte s = .raise c s') :
    s' = s ∨ (unpackCheck (8 - s.upad.toNat) s = none ∧
      s' = (unitBits byte s.upad.toNat).foldl deliverBit s) := by
  unfold ulastBody at h
  split at h
  · cases h; exact .inl rfl
  · next hc =>
    dsimp only at h
    split at h
    · exact .inr ⟨hc, decEnd_raise h⟩
    · cases h

/-- A command that faults has written nothing, ULAST's data bits apart. -/
theorem cmdBody_raise {i : Instr} {c : Cause} {s s' : State} (h : cmdBody i s = .raise c s') :
    s' = s ∨ ∃ byte, i = .ulast byte ∧ unpackCheck (8 - s.upad.toNat) s = none ∧
      s' = (unitBits byte s.upad.toNat).foldl deliverBit s := by
  cases i with
  | ulast byte =>
    rcases ulastBody_raise h with hs | hs
    · exact .inl hs
    · exact .inr ⟨byte, rfl, hs⟩
  | nop | srst | clear | rdfreq _ | build | pbit _ | pflush => cases h
  | rdcsr _ | wrcsr _ _ | wrfreq _ _ | rdclen _ | rdcode _ _ | dbit _ =>
    simp only [cmdBody] at h
    split at h <;> cases h
    exact .inl rfl
  | count _ | gen | enc _ | ubyte _ =>
    simp only [cmdBody, countBody, genBody, encBody, ubyteBody] at h
    repeat' split at h
    all_goals cases h
    exact .inl rfl
  | dend =>
    simp only [cmdBody] at h
    split at h
    · cases h; exact .inl rfl
    · exact .inl (decEnd_raise h)

end Sys2Proof.Machine

/-! PROOFS, 10_state, the tree (R26): the invariant of the merge loop. Its key clause is that the collection is at every
moment the nodes without a parent, so at the end every node but the root has one. -/

namespace Sys2Proof.Machine

/-! ## The merge loop's invariant (10_state R26, 41_tree_builder R121) -/

/-- Induction over the merges of BUILD: what one merge of two live nodes keeps holds when one node is left. -/
theorem mergeLoop_induction {P : Nat → Vector Node 511 → List NodeIdx → Prop}
    (hmerge : ∀ k nodes live x y, k ≤ 254 → x ∈ live → y ∈ live.erase x → P k nodes live →
      P (k + 1) (nodes.set (internalIdx k) (mergedNode nodes x y)) (internalIdx k :: (live.erase x).erase y))
    (m k : Nat) (nodes : Vector Node 511) (live : List NodeIdx) (hk : k + m ≤ 255)
    (hlen : live.length = m + 1) (h : P k nodes live) : ∃ i, P (k + m) (mergeLoop m k nodes live) [i] := by
  induction m generalizing k nodes live with
  | zero =>
    obtain ⟨i, rfl⟩ := List.length_eq_one_iff.1 hlen
    exact ⟨i, h⟩
  | succ m ih =>
    obtain ⟨x, y, hx, hy, hloop⟩ := mergeLoop_succ m k nodes (show 2 ≤ live.length by omega)
    rw [hloop, show k + (m + 1) = k + 1 + m by omega]
    refine ih _ _ _ (by omega) ?_ (hmerge k nodes live x y (by omega) hx hy h)
    rw [List.length_cons, List.length_erase_of_mem hy, List.length_erase_of_mem hx]
    omega

/-- The nodes there are before the `k`-th merge: the present leaves and the internal nodes made so far. -/
def Made (freq : Vector Count 256) (k : Nat) (i : NodeIdx) : Prop :=
  (∃ sym : Symbol, i.val = sym.toNat ∧ Present freq sym) ∨ (256 ≤ i.val ∧ i.val < 256 + k)

/-- `i` stands in a child field of the record `n`. -/
def Node.HasChild (n : Node) (i : NodeIdx) : Prop := n.left = i ∨ n.right = i

theorem Made.lt {freq : Vector Count 256} {k : Nat} {i : NodeIdx} (h : Made freq k i) : i.val < 256 + k := by
  rcases h with ⟨sym, hi, -⟩ | ⟨-, hi⟩
  · have := sym.isLt
    omega
  · exact hi

theorem Made.succ {freq : Vector Count 256} {k : Nat} {i : NodeIdx} (h : Made freq k i) :
    Made freq (k + 1) i :=
  h.imp_right fun hi => ⟨hi.1, by omega⟩

theorem made_succ_iff {freq : Vector Count 256} {k : Nat} (hk : k ≤ 254) {i : NodeIdx} :
    Made freq (k + 1) i ↔ Made freq k i ∨ i = internalIdx k := by
  have hv := internalIdx_val hk
  simp only [Made, Fin.ext_iff, hv]
  constructor
  · rintro (h | h)
    · exact .inl (.inl h)
    · omega
  · rintro ((h | h) | h)
    · exact .inl h
    · omega
    · omega

/-- An internal node made by the first `k + 1` merges is the last one or was made by the first `k`. -/
theorem internal_succ_cases {k : Nat} (hk : k ≤ 254) {p : NodeIdx} (h : p.val < 256 + (k + 1)) :
    p.val < 256 + k ∨ p = internalIdx k := by
  have hv := internalIdx_val hk
  rw [Fin.ext_iff, hv]
  omega

@[simp] theorem getElem_set_internalIdx_self (nodes : Vector Node 511) (k : Nat) (n : Node) :
    (nodes.set (internalIdx k) n)[internalIdx k] = n := by
  simp

/-- A merge rewrites no record that stood before it. -/
theorem getElem_set_internalIdx_of_lt {nodes : Vector Node 511} {k : Nat} (hk : k ≤ 254) (n : Node) {i : NodeIdx}
    (h : i.val < 256 + k) : (nodes.set (internalIdx k) n)[i] = nodes[i] :=
  Vector.getElem_set_ne _ _ (by rw [internalIdx_val hk]; omega)

theorem mergedNode_hasChild {nodes : Vector Node 511} {x y i : NodeIdx} :
    (mergedNode nodes x y).HasChild i ↔ x = i ∨ y = i :=
  Iff.rfl

theorem ChildrenBelow.lt_of_hasChild {nodes : Vector Node 511} {k : Nat} (h : ChildrenBelow nodes k) {p i : NodeIdx}
    (hp : 256 ≤ p.val) (hpk : p.val < 256 + k) (hi : (nodes[p]).HasChild i) : i < p := by
  obtain ⟨hl, hr⟩ := h p hp hpk
  rcases hi with rfl | rfl <;> assumption

/-- BUILD's arena and collection before the `k`-th merge. -/
structure MergeInv (freq : Vector Count 256) (k : Nat) (nodes : Vector Node 511) (live : List NodeIdx) : Prop where
  nodup : live.Nodup
  /-- The collection is what R121 says it is. -/
  mem_live : ∀ i, i ∈ live ↔ LiveBefore freq nodes k i
  /-- Every internal node made so far has two distinct children. -/
  children : ∀ p : NodeIdx, 256 ≤ p.val → p.val < 256 + k →
    (nodes[p]).left ≠ (nodes[p]).right ∧ Made freq k (nodes[p]).left ∧ Made freq k (nodes[p]).right
  /-- No node has two parents. -/
  oneParent : ∀ p q i : NodeIdx, 256 ≤ p.val → p.val < 256 + k → 256 ≤ q.val → q.val < 256 + k →
    (nodes[p]).HasChild i → (nodes[q]).HasChild i → p = q
  /-- The live nodes weigh the sum of all counts together. -/
  weightSum : (live.map fun i => (nodes[i]).weight.toNat).sum = countSum freq
  weightPos : ∀ i, Made freq k i → 1 ≤ (nodes[i]).weight.toNat

section Merge

variable {freq : Vector Count 256} {k : Nat} {nodes : Vector Node 511} {live : List NodeIdx} {x y : NodeIdx}

theorem MergeInv.made_of_mem (h : MergeInv freq k nodes live) {i : NodeIdx} (hi : i ∈ live) : Made freq k i :=
  ((h.mem_live i).1 hi).1

theorem MergeInv.made_of_hasChild (h : MergeInv freq k nodes live) {p i : NodeIdx} (hp : 256 ≤ p.val)
    (hpk : p.val < 256 + k) (hi : (nodes[p]).HasChild i) : Made freq k i := by
  obtain ⟨-, hl, hr⟩ := h.children p hp hpk
  rcases hi with rfl | rfl <;> assumption

/-- A live node has no parent yet. -/
theorem MergeInv.not_hasChild_of_mem (h : MergeInv freq k nodes live) {p i : NodeIdx} (hi : i ∈ live)
    (hp : 256 ≤ p.val) (hpk : p.val < 256 + k) : ¬ (nodes[p]).HasChild i := by
  have hno := ((h.mem_live i).1 hi).2 p hp hpk
  rintro (hc | hc)
  · exact hno.1 hc
  · exact hno.2 hc

/-- LiveBefore in terms of the two definitions above. -/
theorem liveBefore_iff {i : NodeIdx} :
    LiveBefore freq nodes k i ↔
      Made freq k i ∧ ∀ p : NodeIdx, 256 ≤ p.val → p.val < 256 + k → ¬ (nodes[p]).HasChild i := by
  simp only [LiveBefore, Made, Node.HasChild, not_or, ne_eq]

theorem mem_erase_erase {l : List NodeIdx} (h : l.Nodup) {a b i : NodeIdx} :
    i ∈ (l.erase a).erase b ↔ i ≠ b ∧ i ≠ a ∧ i ∈ l := by
  rw [(h.erase a).mem_erase_iff, h.mem_erase_iff]

theorem liveBefore_merge (h : MergeInv freq k nodes live) (hk : k ≤ 254) (hx : x ∈ live) (hy : y ∈ live)
    (i : NodeIdx) :
    LiveBefore freq (nodes.set (internalIdx k) (mergedNode nodes x y)) (k + 1) i ↔
      i = internalIdx k ∨ (i ≠ y ∧ i ≠ x ∧ LiveBefore freq nodes k i) := by
  have hv := internalIdx_val hk
  have hold : ∀ {p : NodeIdx}, p.val < 256 + k →
      (nodes.set (internalIdx k) (mergedNode nodes x y))[p] = nodes[p] :=
    fun hp => getElem_set_internalIdx_of_lt hk _ hp
  simp only [liveBefore_iff]
  constructor
  · rintro ⟨hmade, hno⟩
    rcases (made_succ_iff hk).1 hmade with hmade | rfl
    · have hlast := hno (internalIdx k) (by omega) (by omega)
      rw [getElem_set_internalIdx_self, mergedNode_hasChild, not_or] at hlast
      refine .inr ⟨Ne.symm hlast.2, Ne.symm hlast.1, hmade, fun p hp hpk => ?_⟩
      have hp' := hno p hp (by omega)
      rwa [hold hpk] at hp'
    · exact .inl rfl
  · rintro (rfl | ⟨hiy, hix, hmade, hno⟩)
    · refine ⟨(made_succ_iff hk).2 (.inr rfl), fun p hp hpk hc => ?_⟩
      rcases internal_succ_cases hk hpk with hpk | rfl
      · rw [hold hpk] at hc
        have := (h.made_of_hasChild hp hpk hc).lt
        omega
      · have hxlt := (h.made_of_mem hx).lt
        have hylt := (h.made_of_mem hy).lt
        rw [getElem_set_internalIdx_self] at hc
        rcases mergedNode_hasChild.1 hc with rfl | rfl <;> omega
    · refine ⟨hmade.succ, fun p hp hpk hc => ?_⟩
      rcases internal_succ_cases hk hpk with hpk | rfl
      · rw [hold hpk] at hc
        exact hno p hp hpk hc
      · rw [getElem_set_internalIdx_self] at hc
        rcases mergedNode_hasChild.1 hc with rfl | rfl
        · exact hix rfl
        · exact hiy rfl

/-- A weight never overflows its 40 bits (41_tree_builder R129): 256 counts of 32 bits fit. -/
theorem countSum_lt (freq : Vector Count 256) : countSum freq < 2 ^ 40 := by
  have hle : countSum freq ≤ ((List.finRange 256).map fun sym => (freq[sym]).toNat).length * (2 ^ 32 - 1) := by
    rw [← smul_eq_mul]
    refine List.sum_le_card_nsmul _ _ fun n hn => ?_
    obtain ⟨sym, -, rfl⟩ := List.mem_map.1 hn
    have := (freq[sym]).isLt
    omega
  simp only [List.length_map, List.length_finRange] at hle
  omega

/-- The weights of the live nodes, two of them named. -/
theorem MergeInv.weightSum_erase (h : MergeInv freq k nodes live) (hx : x ∈ live) (hy : y ∈ live.erase x) :
    (nodes[x]).weight.toNat + ((nodes[y]).weight.toNat +
      (((live.erase x).erase y).map fun i => (nodes[i]).weight.toNat).sum) = countSum freq := by
  rw [← h.weightSum, ← List.sum_map_erase _ hx, ← List.sum_map_erase _ hy]

theorem MergeInv.merged_weight (h : MergeInv freq k nodes live) (hx : x ∈ live) (hy : y ∈ live.erase x) :
    (mergedNode nodes x y).weight.toNat = (nodes[x]).weight.toNat + (nodes[y]).weight.toNat := by
  have hsum := h.weightSum_erase hx hy
  have hlt := countSum_lt freq
  rw [mergedNode, BitVec.toNat_add]
  exact Nat.mod_eq_of_lt (by omega)

/-- A merge gives a parent to two nodes that had none. -/
theorem MergeInv.oneParent_merge (h : MergeInv freq k nodes live) (hk : k ≤ 254) (hx : x ∈ live) (hy : y ∈ live)
    {p q i : NodeIdx} (hp : 256 ≤ p.val) (hpk : p.val < 256 + (k + 1)) (hq : 256 ≤ q.val)
    (hqk : q.val < 256 + (k + 1))
    (hpi : ((nodes.set (internalIdx k) (mergedNode nodes x y))[p]).HasChild i)
    (hqi : ((nodes.set (internalIdx k) (mergedNode nodes x y))[q]).HasChild i) : p = q := by
  have hlast : ∀ {q : NodeIdx}, 256 ≤ q.val → q.val < 256 + k → (mergedNode nodes x y).HasChild i →
      ¬ (nodes[q]).HasChild i := by
    rintro q hq hqk (rfl | rfl)
    · exact h.not_hasChild_of_mem hx hq hqk
    · exact h.not_hasChild_of_mem hy hq hqk
  rcases internal_succ_cases hk hpk with hpk | rfl <;> rcases internal_succ_cases hk hqk with hqk | rfl
  · rw [getElem_set_internalIdx_of_lt hk _ hpk] at hpi
    rw [getElem_set_internalIdx_of_lt hk _ hqk] at hqi
    exact h.oneParent p q i hp hpk hq hqk hpi hqi
  · rw [getElem_set_internalIdx_of_lt hk _ hpk] at hpi
    rw [getElem_set_internalIdx_self] at hqi
    exact absurd hpi (hlast hp hpk hqi)
  · rw [getElem_set_internalIdx_self] at hpi
    rw [getElem_set_internalIdx_of_lt hk _ hqk] at hqi
    exact absurd hqi (hlast hq hqk hpi)
  · rfl

/-- A merge moves two weights into one. -/
theorem MergeInv.weightSum_merge (h : MergeInv freq k nodes live) (hk : k ≤ 254) (hx : x ∈ live)
    (hy : y ∈ live.erase x) :
    ((internalIdx k :: (live.erase x).erase y).map fun i =>
      ((nodes.set (internalIdx k) (mergedNode nodes x y))[i]).weight.toNat).sum = countSum freq := by
  have hrest : (((live.erase x).erase y).map fun i =>
      ((nodes.set (internalIdx k) (mergedNode nodes x y))[i]).weight.toNat) =
      ((live.erase x).erase y).map fun i => (nodes[i]).weight.toNat := by
    refine List.map_congr_left fun i hi => ?_
    have hmade := h.made_of_mem (List.mem_of_mem_erase (List.mem_of_mem_erase hi))
    rw [getElem_set_internalIdx_of_lt hk _ hmade.lt]
  rw [List.map_cons, List.sum_cons, hrest, getElem_set_internalIdx_self, h.merged_weight hx hy,
    ← h.weightSum_erase hx hy, Nat.add_assoc]

/-- One merge keeps the invariant. -/
theorem MergeInv.merge (h : MergeInv freq k nodes live) (hk : k ≤ 254) (hx : x ∈ live) (hy : y ∈ live.erase x) :
    MergeInv freq (k + 1) (nodes.set (internalIdx k) (mergedNode nodes x y))
      (internalIdx k :: (live.erase x).erase y) := by
  obtain ⟨hyx, hy'⟩ := h.nodup.mem_erase_iff.1 hy
  constructor
  case nodup =>
    refine List.nodup_cons.2 ⟨fun hm => ?_, (h.nodup.erase x).erase y⟩
    have hlt := (h.made_of_mem (List.mem_of_mem_erase (List.mem_of_mem_erase hm))).lt
    rw [internalIdx_val hk] at hlt
    omega
  case mem_live =>
    intro i
    rw [liveBefore_merge h hk hx hy', List.mem_cons, mem_erase_erase h.nodup, h.mem_live]
  case children =>
    intro p hp hpk
    rcases internal_succ_cases hk hpk with hpk | rfl
    · rw [getElem_set_internalIdx_of_lt hk _ hpk]
      obtain ⟨hne, hl, hr⟩ := h.children p hp hpk
      exact ⟨hne, hl.succ, hr.succ⟩
    · rw [getElem_set_internalIdx_self]
      exact ⟨hyx.symm, (h.made_of_mem hx).succ, (h.made_of_mem hy').succ⟩
  case oneParent => exact fun p q i hp hpk hq hqk => h.oneParent_merge hk hx hy' hp hpk hq hqk
  case weightSum => exact h.weightSum_merge hk hx hy
  case weightPos =>
    intro i hi
    rcases (made_succ_iff hk).1 hi with hi | rfl
    · rw [getElem_set_internalIdx_of_lt hk _ hi.lt]
      exact h.weightPos i hi
    · rw [getElem_set_internalIdx_self, h.merged_weight hx hy]
      have := h.weightPos x (h.made_of_mem hx)
      omega

end Merge

/-! ## The seeded collection and the finished tree -/

theorem mem_seedLive_iff_present {freq : Vector Count 256} {i : NodeIdx} :
    i ∈ seedLive freq ↔ ∃ sym : Symbol, i.val = sym.toNat ∧ Present freq sym := by
  rw [mem_seedLive]
  constructor
  · rintro ⟨sym, hsym, rfl⟩
    exact ⟨BitVec.ofFin sym, rfl, hsym⟩
  · rintro ⟨sym, hi, hsym⟩
    exact ⟨sym.toFin, hsym, Fin.ext hi.symm⟩

theorem seedNodes_leaf_weight (freq : Vector Count 256) (old : Vector Node 511) (sym : Fin 256) :
    ((seedNodes freq old)[leafIdx sym]).weight.toNat = (freq[sym]).toNat := by
  have hlt := (freq[sym]).isLt
  simp only [Fin.getElem_fin] at hlt
  simp [seedNodes, leafIdx]
  omega

theorem seedLive_weightSum (freq : Vector Count 256) (old : Vector Node 511) :
    ((seedLive freq).map fun i => ((seedNodes freq old)[i]).weight.toNat).sum = countSum freq := by
  have hpresent : (fun sym : Fin 256 => freq[sym] != 0#32) = (· != 0) ∘ fun sym => (freq[sym]).toNat := by
    funext sym
    simp [bne, BitVec.toNat_eq]
  rw [seedLive_eq, List.map_map, countSum]
  simp only [Function.comp_def, seedNodes_leaf_weight]
  rw [hpresent, ← List.filter_map, List.sum_filter_bne_zero]

/-- Before the first merge the collection is the present leaves. -/
theorem mergeInv_seed (freq : Vector Count 256) (old : Vector Node 511) :
    MergeInv freq 0 (seedNodes freq old) (seedLive freq) where
  nodup := seedLive_nodup freq
  mem_live i := by
    rw [liveBefore_iff, mem_seedLive_iff_present]
    exact ⟨fun h => ⟨.inl h, fun p hp hlt => by omega⟩, fun ⟨h, _⟩ => h.resolve_right (by omega)⟩
  children p hp hlt := by omega
  oneParent p q i hp hlt := by omega
  weightSum := seedLive_weightSum freq old
  weightPos i hi := by
    obtain ⟨sym, hsym, rfl⟩ := mem_seedLive.1 (mem_seedLive_iff_present.2 (hi.resolve_right (by omega)))
    rw [seedNodes_leaf_weight]
    exact Nat.one_le_iff_ne_zero.2 fun h0 => hsym (BitVec.eq_of_toNat_eq h0)

section Built

variable {freq : Vector Count 256} {old : Vector Node 511}

/-- The root is the one node that has no parent (10_state R26). -/
theorem buildTree_root_live (h : 1 ≤ (seedLive freq).length) :
    LiveBefore freq (buildTree freq old).nodes ((seedLive freq).length - 1) (buildTree freq old).root := by
  rw [liveBefore_iff]
  by_cases h2 : 2 ≤ (seedLive freq).length
  · have hroot := buildTree_root_val (old := old) h2
    refine ⟨.inr (by omega), fun p hp hpk hc => ?_⟩
    have hlt := (buildTree_childrenBelow freq old h).lt_of_hasChild hp hpk hc
    rw [Fin.lt_def] at hlt
    omega
  · obtain ⟨i, hi⟩ := List.length_eq_one_iff.1 (show (seedLive freq).length = 1 by omega)
    have hroot : (buildTree freq old).root = i := by rw [buildTree, hi]; rfl
    refine ⟨.inl (mem_seedLive_iff_present.1 (by simp [hi, hroot])), fun p hp hpk => by omega⟩

/-- After the last merge the root alone is live. -/
theorem buildTree_mergeInv (h : 1 ≤ (seedLive freq).length) :
    MergeInv freq ((seedLive freq).length - 1) (buildTree freq old).nodes [(buildTree freq old).root] := by
  have hle := seedLive_length_le freq
  obtain ⟨i, hi⟩ := mergeLoop_induction (P := MergeInv freq)
    (fun k nodes live x y hk hx hy hinv => hinv.merge hk hx hy)
    ((seedLive freq).length - 1) 0 _ _ (by omega) (by omega) (mergeInv_seed freq old)
  rw [Nat.zero_add] at hi
  have hroot : (buildTree freq old).root = i := List.mem_singleton.1 ((hi.mem_live _).2 (buildTree_root_live h))
  rwa [hroot]

/-- The nodes of the finished tree (10_state R26 item 1). -/
theorem inTree_buildTree {i : NodeIdx} :
    InTree freq (buildTree freq old) i ↔ Made freq ((seedLive freq).length - 1) i := by
  rw [InTree, Made, buildTree_nleaves_val, Fin.le_def]
  refine or_congr_right ?_
  by_cases h2 : 2 ≤ (seedLive freq).length
  · rw [buildTree_root_val h2]
    omega
  · omega

theorem le_buildTree_root {p : NodeIdx} (h : 2 ≤ (seedLive freq).length) :
    p ≤ (buildTree freq old).root ↔ p.val < 256 + ((seedLive freq).length - 1) := by
  rw [Fin.le_def, buildTree_root_val h]
  omega

theorem childOf_buildTree {i p : NodeIdx} (h : 2 ≤ (seedLive freq).length) :
    ChildOf (buildTree freq old) i p ↔ 256 ≤ p.val ∧ p.val < 256 + ((seedLive freq).length - 1) ∧
      ((buildTree freq old).nodes[p]).HasChild i := by
  rw [ChildOf, le_buildTree_root h, Node.HasChild]

/-- Every node of the tree but the root has a parent (10_state R26 item 3). -/
theorem exists_parent_buildTree {i : NodeIdx} (h : 1 ≤ (seedLive freq).length)
    (hi : InTree freq (buildTree freq old) i) (hne : i ≠ (buildTree freq old).root) :
    ∃ p : NodeIdx, 256 ≤ p.val ∧ p.val < 256 + ((seedLive freq).length - 1) ∧
      ((buildTree freq old).nodes[p]).HasChild i := by
  have hnot : ¬ LiveBefore freq (buildTree freq old).nodes ((seedLive freq).length - 1) i :=
    fun hl => hne (List.mem_singleton.1 (((buildTree_mergeInv h).mem_live i).2 hl))
  simp only [liveBefore_iff, not_and, not_forall, not_not] at hnot
  obtain ⟨p, hp, hpk, hc⟩ := hnot (inTree_buildTree.1 hi)
  exact ⟨p, hp, hpk, hc⟩

/-- An internal node of the tree has two distinct children in the tree, both of smaller index (R26 item 2). -/
theorem buildTree_children {p : NodeIdx} (h : 2 ≤ (seedLive freq).length) (hp : 256 ≤ p.val)
    (hpr : p ≤ (buildTree freq old).root) :
    ((buildTree freq old).nodes[p]).left < p ∧ ((buildTree freq old).nodes[p]).right < p ∧
      ((buildTree freq old).nodes[p]).left ≠ ((buildTree freq old).nodes[p]).right ∧
      InTree freq (buildTree freq old) ((buildTree freq old).nodes[p]).left ∧
      InTree freq (buildTree freq old) ((buildTree freq old).nodes[p]).right := by
  have h1 : 1 ≤ (seedLive freq).length := by omega
  rw [le_buildTree_root h] at hpr
  obtain ⟨hl, hr⟩ := buildTree_childrenBelow freq old h1 p hp hpr
  obtain ⟨hne, hml, hmr⟩ := (buildTree_mergeInv h1).children p hp hpr
  exact ⟨hl, hr, hne, inTree_buildTree.2 hml, inTree_buildTree.2 hmr⟩

/-- No node of the tree has two parents. -/
theorem childOf_buildTree_unique {p q i : NodeIdx} (h : 2 ≤ (seedLive freq).length)
    (hp : ChildOf (buildTree freq old) i p) (hq : ChildOf (buildTree freq old) i q) : p = q := by
  obtain ⟨hp, hpk, hpi⟩ := (childOf_buildTree h).1 hp
  obtain ⟨hq, hqk, hqi⟩ := (childOf_buildTree h).1 hq
  exact (buildTree_mergeInv (by omega)).oneParent p q i hp hpk hq hqk hpi hqi

theorem not_childOf_buildTree_root (h : 2 ≤ (seedLive freq).length) (p : NodeIdx) :
    ¬ ChildOf (buildTree freq old) (buildTree freq old).root p := by
  intro hc
  obtain ⟨hp, hpk, hpi⟩ := (childOf_buildTree h).1 hc
  exact (buildTree_mergeInv (by omega)).not_hasChild_of_mem List.mem_cons_self hp hpk hpi

end Built

/-- What BUILD leaves in a CORE that is not halted. -/
theorem exec_build {s t : State} (h0 : s.errCause = 0#4) (h : exec .build s = .next t) :
    t = (s.writeTree (buildTree s.freq s.nodes)).treePublished.respond statOk 0#32 := by
  have := runCommand_of_done .build h0 (body := cmdBody .build) rfl
  exact Host.Outcome.next.inj (h.symm.trans this)

/-- Settles O34: before its `k`-th merge BUILD's collection is the nodes that have no parent yet, and at the end it is
the root alone. -/
theorem buildGivesStrictBinaryTree : Obligations.BuildGivesStrictBinaryTree := by
  intro s t h0 hb hn
  obtain rfl := exec_build h0 hb
  have h2 : 2 ≤ (seedLive s.freq).length := buildTree_nleaves_val s.freq s.nodes ▸ hn
  refine ⟨fun p hp hpr => buildTree_children h2 hp hpr, fun i hi hne => ?_, not_childOf_buildTree_root h2⟩
  obtain ⟨p, hparent⟩ := exists_parent_buildTree (by omega) hi hne
  have hp := (childOf_buildTree h2).2 hparent
  exact ⟨p, hp, fun q hq => childOf_buildTree_unique h2 hq hp⟩

/-- Settles O36: the live nodes always weigh the sum of all counts, and at the end the root alone is live. -/
theorem rootWeighsAllCounts : Obligations.RootWeighsAllCounts := by
  intro s t h0 hb hn
  obtain rfl := exec_build h0 hb
  have hinv := buildTree_mergeInv (old := s.nodes) (buildTree_nleaves_val s.freq s.nodes ▸ hn)
  exact ⟨by simpa using hinv.weightSum, fun i hi => hinv.weightPos i (inTree_buildTree.1 hi)⟩

end Sys2Proof.Machine

/-! PROOFS, 10_state, the codes (R27): a walk meets exactly the leaves that a path reaches, every present leaf is
reached because every node but the root has a parent, and the path written last for a symbol is never empty. -/

namespace Sys2Proof.Machine

/-! ## Paths -/

@[simp] theorem reaches_nil {nodes : Vector Node 511} {i j : NodeIdx} : Reaches nodes i [] j ↔ i = j :=
  Iff.rfl

theorem reaches_cons {nodes : Vector Node 511} {i j : NodeIdx} {b : Bool} {bits : List Bool} :
    Reaches nodes i (b :: bits) j ↔ 256 ≤ i.val ∧ Reaches nodes (childOn nodes[i] b) bits j :=
  Iff.rfl

theorem reaches_append {nodes : Vector Node 511} {i j : NodeIdx} {bits bits' : List Bool} :
    Reaches nodes i (bits ++ bits') j ↔ ∃ p, Reaches nodes i bits p ∧ Reaches nodes p bits' j := by
  induction bits generalizing i with
  | nil => simp
  | cons b bits ih => simp only [List.cons_append, reaches_cons, ih, and_assoc, exists_and_left]

theorem leafIdx_val_lt (sym : Fin 256) : (leafIdx sym).val < 256 :=
  sym.isLt

/-- A child is one bit below its parent. -/
theorem exists_childOn_of_hasChild {n : Node} {i : NodeIdx} (h : n.HasChild i) : ∃ b, childOn n b = i := by
  rcases h with rfl | rfl
  · exact ⟨false, rfl⟩
  · exact ⟨true, rfl⟩

/-- Every node of the tree is reached from the root: climb from parent to parent, whose indices rise. -/
theorem exists_reaches_buildTree {freq : Vector Count 256} {old : Vector Node 511}
    (h : 1 ≤ (seedLive freq).length) {i : NodeIdx} (hi : InTree freq (buildTree freq old) i) :
    ∃ bits, Reaches (buildTree freq old).nodes (buildTree freq old).root bits i := by
  induction hd : 511 - i.val using Nat.strongRecOn generalizing i with
  | ind d ih =>
    by_cases hroot : i = (buildTree freq old).root
    · exact ⟨[], hroot.symm⟩
    · obtain ⟨p, hp, hpk, hc⟩ := exists_parent_buildTree h hi hroot
      have hlt := (buildTree_childrenBelow freq old h).lt_of_hasChild hp hpk hc
      rw [Fin.lt_def] at hlt
      have hpt : InTree freq (buildTree freq old) p := inTree_buildTree.2 (.inr ⟨hp, hpk⟩)
      obtain ⟨bits, hbits⟩ := ih (511 - p.val) (by omega) hpt rfl
      obtain ⟨b, hb⟩ := exists_childOn_of_hasChild hc
      exact ⟨bits ++ [b], reaches_append.2 ⟨p, hbits, hp, hb⟩⟩

/-! ## The walk (42_code_generator R141) -/

/-- From a leaf no path leads on. -/
theorem reaches_of_lt {nodes : Vector Node 511} {i j : NodeIdx} {bits : List Bool} (hi : i.val < 256) :
    Reaches nodes i bits j ↔ bits = [] ∧ i = j := by
  cases bits with
  | nil => simp
  | cons b bits => simp [reaches_cons, show ¬ 256 ≤ i.val by omega]

/-- From an internal node a path to a leaf leads over one of the children. -/
theorem reaches_leaf_iff {nodes : Vector Node 511} {i j : NodeIdx} {bits : List Bool} (hi : 256 ≤ i.val)
    (hj : j.val < 256) :
    Reaches nodes i bits j ↔ ∃ b rest, bits = b :: rest ∧ Reaches nodes (childOn nodes[i] b) rest j := by
  cases bits with
  | nil => simpa using show i ≠ j by rintro rfl; omega
  | cons b bits => simp [reaches_cons, hi]

theorem eq_ofNat_iff_eq_leafIdx {i : NodeIdx} (hi : i.val < 256) {sym : Symbol} :
    sym = BitVec.ofNat 8 i.val ↔ i = leafIdx sym.toFin := by
  rw [Fin.ext_iff, BitVec.toNat_eq, BitVec.toNat_ofNat, Nat.mod_eq_of_lt hi]
  exact eq_comm

theorem mem_walk_of_lt {nodes : Vector Node 511} {depth : Nat} {i : NodeIdx} {path : List Bool}
    {leaves : List (Symbol × List Bool)} (hi : i.val < 256) (hw : walk nodes depth i path = some leaves)
    {sym : Symbol} {code : List Bool} :
    (sym, code) ∈ leaves ↔
      ∃ bits, Reaches nodes i bits (leafIdx sym.toFin) ∧ code = path ++ bits := by
  rw [walk_leaf nodes depth hi] at hw
  obtain rfl := Option.some.inj hw
  simp only [List.mem_singleton, Prod.mk.injEq, reaches_of_lt hi, eq_ofNat_iff_eq_leafIdx hi]
  constructor
  · rintro ⟨hs, rfl⟩
    exact ⟨[], ⟨rfl, hs⟩, by simp⟩
  · rintro ⟨bits, ⟨rfl, hs⟩, rfl⟩
    exact ⟨hs, by simp⟩

/-- A walk answers the leaves that a path from its node reaches, each with that path. -/
theorem mem_walk {nodes : Vector Node 511} {depth : Nat} {i : NodeIdx} {path : List Bool}
    {leaves : List (Symbol × List Bool)} (hw : walk nodes depth i path = some leaves)
    {sym : Symbol} {code : List Bool} :
    (sym, code) ∈ leaves ↔
      ∃ bits, Reaches nodes i bits (leafIdx sym.toFin) ∧ code = path ++ bits := by
  induction depth generalizing i path leaves with
  | zero =>
    by_cases hi : i.val < 256
    · exact mem_walk_of_lt hi hw
    · simp [walk, hi] at hw
  | succ depth ih =>
    by_cases hi : i.val < 256
    · exact mem_walk_of_lt hi hw
    · have hi : 256 ≤ i.val := by omega
      obtain ⟨d, l, r, hd, rfl, hl, hr⟩ := walk_internal hi hw
      obtain rfl := Nat.succ.inj hd
      rw [List.mem_append, ih hl, ih hr]
      have hstep : ∀ bits, Reaches nodes i bits (leafIdx sym.toFin) ↔
          ∃ b rest, bits = b :: rest ∧ Reaches nodes (childOn nodes[i] b) rest (leafIdx sym.toFin) :=
        fun bits => reaches_leaf_iff hi (leafIdx_val_lt _)
      constructor
      · rintro (⟨bits, hreach, rfl⟩ | ⟨bits, hreach, rfl⟩)
        · exact ⟨false :: bits, (hstep _).2 ⟨_, _, rfl, hreach⟩, by simp⟩
        · exact ⟨true :: bits, (hstep _).2 ⟨_, _, rfl, hreach⟩, by simp⟩
      · rintro ⟨bits, hreach, rfl⟩
        obtain ⟨b, rest, rfl, hrest⟩ := (hstep _).1 hreach
        cases b with
        | false => exact .inl ⟨rest, hrest, by simp⟩
        | true => exact .inr ⟨rest, hrest, by simp⟩

/-- A walk that answers went down every path: none is longer than its depth. -/
theorem length_le_of_walk {nodes : Vector Node 511} {depth : Nat} {i j : NodeIdx} {path bits : List Bool}
    {leaves : List (Symbol × List Bool)} (hw : walk nodes depth i path = some leaves)
    (h : Reaches nodes i bits j) : bits.length ≤ depth := by
  induction bits generalizing depth i path leaves with
  | nil => exact Nat.zero_le _
  | cons b bits ih =>
    obtain ⟨hi, hrest⟩ := reaches_cons.1 h
    obtain ⟨d, l, r, rfl, -, hl, hr⟩ := walk_internal hi hw
    refine Nat.succ_le_succ ?_
    cases b with
    | false => exact ih hl hrest
    | true => exact ih hr hrest

/-! ## The code tables (42_code_generator R141 to R143) -/

/-- A symbol's entry of the code tables is `path`, its length beside it. -/
def CodeTables.Holds (t : CodeTables) (sym : Symbol) (path : List Bool) : Prop :=
  t.code[sym.toFin] = path ∧ t.clen[sym.toFin] = BitVec.ofNat 8 path.length

theorem CodeTables.holds_write_self (t : CodeTables) (sym : Symbol) (path : List Bool) :
    (t.write sym path).Holds sym path := by
  simp [CodeTables.Holds, CodeTables.write]

theorem CodeTables.holds_write_other {t : CodeTables} {sym sym' : Symbol} (path : List Bool) {path' : List Bool}
    (hne : sym ≠ sym') : (t.write sym path).Holds sym' path' ↔ t.Holds sym' path' := by
  have : sym.toNat ≠ sym'.toNat := fun e => hne (BitVec.eq_of_toNat_eq e)
  simp [CodeTables.Holds, CodeTables.write, this]

/-- The tables after GEN's walk hold for every symbol met a path it was met with: the one written last. -/
theorem exists_holds_foldl_write {leaves : List (Symbol × List Bool)} (t : CodeTables) {sym : Symbol}
    (h : ∃ path, (sym, path) ∈ leaves) :
    ∃ path, (sym, path) ∈ leaves ∧
      (leaves.foldl (fun tables leaf => tables.write leaf.1 leaf.2) t).Holds sym path := by
  induction leaves using List.reverseRecOn with
  | nil => simp at h
  | append_singleton leaves leaf ih =>
    rw [List.foldl_append, List.foldl_cons, List.foldl_nil]
    by_cases hs : leaf.1 = sym
    · subst hs
      exact ⟨leaf.2, by simp, CodeTables.holds_write_self _ _ _⟩
    · have hin : ∃ path, (sym, path) ∈ leaves := by
        obtain ⟨path, hp⟩ := h
        refine ⟨path, (List.mem_append.1 hp).resolve_right fun hl => ?_⟩
        obtain rfl := List.mem_singleton.1 hl
        exact hs rfl
      obtain ⟨path, hp, hholds⟩ := ih hin
      exact ⟨path, List.mem_append_left _ hp, (CodeTables.holds_write_other _ hs).2 hholds⟩

/-- An entry of at most 255 bits is the code it is read as (10_state R27, log entry 7). -/
theorem readCode_of_holds {s : State} {sym : Symbol} {path : List Bool} (h : s.codes.Holds sym path)
    (hlen : path.length ≤ 255) : s.readCode sym = path := by
  obtain ⟨hcode, hclen⟩ := h
  rw [State.codes] at hcode hclen
  rw [State.readCode, State.readClen, hcode, hclen, BitVec.toNat_ofNat, Nat.mod_eq_of_lt (by omega),
    List.take_length]

/-- With two leaves or more GEN's tables are those of a walk from the root. -/
theorem genCodes_eq_some_of_two_le {t : BuiltTree} {tables : CodeTables} (h : 2 ≤ t.nleaves.val)
    (hg : genCodes t = some tables) :
    ∃ leaves, walk t.nodes Config.maxClen t.root [] = some leaves ∧
      tables = leaves.foldl (fun tables leaf => tables.write leaf.1 leaf.2) .blank := by
  have h0 : t.nleaves ≠ 0 := fun e => by simp [e] at h
  have h1 : t.nleaves ≠ 1 := fun e => by simp [e] at h
  rw [genCodes, if_neg h0, if_neg h1] at hg
  split at hg
  · next leaves hw => exact ⟨leaves, hw, (Option.some.inj hg).symm⟩
  · cases hg

/-- With one leaf GEN writes its code `1` (R143). -/
theorem genCodes_eq_some_of_one {t : BuiltTree} {tables : CodeTables} (h : t.nleaves = 1)
    (hg : genCodes t = some tables) :
    tables = CodeTables.blank.write (BitVec.ofNat 8 t.root.val) [true] := by
  have h0 : t.nleaves ≠ 0 := fun e => by simp [e] at h
  rw [genCodes, if_neg h0, if_pos h] at hg
  split at hg
  · exact (Option.some.inj hg).symm
  · cases hg

/-- A present symbol's leaf is a node of the tree. -/
theorem inTree_leafIdx {freq : Vector Count 256} {t : BuiltTree} {sym : Symbol} (h : Present freq sym) :
    InTree freq t (leafIdx sym.toFin) :=
  .inl ⟨sym, rfl, h⟩

/-- GEN's tables of BUILD's tree hold a code of 1 to 255 bits for every present symbol. -/
theorem exists_holds_of_present {freq : Vector Count 256} {old : Vector Node 511} {tables : CodeTables}
    (hg : genCodes (buildTree freq old) = some tables) {sym : Symbol} (hsym : Present freq sym) :
    ∃ path, path ≠ [] ∧ path.length ≤ 255 ∧ tables.Holds sym path := by
  have hn := buildTree_nleaves_val freq old
  have h1 : 1 ≤ (seedLive freq).length :=
    List.length_pos_of_mem (mem_seedLive_iff_present.2 ⟨sym, rfl, hsym⟩ : leafIdx sym.toFin ∈ seedLive freq)
  obtain ⟨bits, hreach⟩ := exists_reaches_buildTree (old := old) h1 (inTree_leafIdx hsym)
  by_cases h2 : 2 ≤ (seedLive freq).length
  · have hroot := buildTree_root_val (old := old) h2
    obtain ⟨leaves, hw, rfl⟩ := genCodes_eq_some_of_two_le (by omega) hg
    obtain ⟨path, hmem, hholds⟩ :=
      exists_holds_foldl_write .blank ⟨bits, (mem_walk hw).2 ⟨bits, hreach, rfl⟩⟩
    obtain ⟨path, hpath, rfl⟩ := (mem_walk hw).1 hmem
    refine ⟨_, ?_, length_le_of_walk hw hpath, hholds⟩
    rintro rfl
    have := leafIdx_val_lt sym.toFin
    rw [← reaches_nil.1 hpath] at this
    omega
  · have hroot := buildTree_root_lt (old := old) (show (seedLive freq).length = 1 by omega)
    obtain rfl := genCodes_eq_some_of_one (Fin.ext (by rw [hn]; simp; omega)) hg
    obtain ⟨-, hroot'⟩ := (reaches_of_lt hroot).1 hreach
    rw [← (eq_ofNat_iff_eq_leafIdx hroot).2 hroot']
    exact ⟨[true], by simp, by simp, CodeTables.holds_write_self _ _ _⟩

/-- What GEN leaves in a CORE that has a tree and is not halted. -/
theorem exec_gen {s t : State} (h0 : s.errCause = 0#4) (htv : s.tv = true) (h : exec .gen s = .next t) :
    ∃ tables, genCodes s.tree = some tables ∧ t = (s.writeCodes tables).codesPublished.respond statOk 0#32 := by
  cases hg : genCodes s.tree with
  | some tables =>
    have hdone : exec .gen s = .next ((s.writeCodes tables).codesPublished.respond statOk 0#32) :=
      runCommand_of_done .gen h0 (by simp [genBody, htv, hg])
    exact ⟨tables, rfl, Host.Outcome.next.inj (h.symm.trans hdone)⟩
  | none => simp [exec, execGen, runCommand, State.halted, h0, genBody, htv, hg, CmdResult.conclude] at h

/-- Settles O41: the tree is BUILD's, every present leaf is reached from its root, and GEN's walk goes there. -/
theorem presentSymbolsGetCodes : Obligations.PresentSymbolsGetCodes := by
  intro s t hinv h0 htv h sym hsym
  obtain ⟨old, hold⟩ := hinv.tree htv
  obtain ⟨tables, hg, rfl⟩ := exec_gen h0 htv h
  rw [hold] at hg
  obtain ⟨path, hne, hlen, hholds⟩ := exists_holds_of_present hg hsym
  refine ne_of_eq_of_ne (readCode_of_holds ?_ hlen) hne
  exact hholds

end Sys2Proof.Machine

/-! PROOFS, 10_state, the invariant (R28, R29, R31, R32): what each kind of update does to it. The one step that needs
the tree is DecBit's: a child of the cursor has a smaller index, so the cursor stays below the root. -/

namespace Sys2Proof.Machine

/-! ## Reset -/

theorem inv_toReset (s : State) : s.toReset.Inv where
  tree h := by cases h
  codes h := by cases h
  codesNeedTree h := by cases h
  cursor h := by cases h
  packer := show (0#8).toNat < 2 ^ (0#3).toNat by decide
  cause := show (0#4).toNat ≤ 6 by decide

/-- Settles O19: every reset meets the invariant, the first one included. -/
theorem resetMeetsInvariant : Obligations.ResetMeetsInvariant := inv_toReset State.reset

section Updates

variable {s : State}

/-! ## Updates that the invariant does not see -/

theorem State.Inv.respond (h : s.Inv) (stat : BitVec 4) (rdata : BitVec 32) : (s.respond stat rdata).Inv :=
  ⟨h.tree, h.codes, h.codesNeedTree, h.cursor, h.packer, h.cause⟩

theorem State.Inv.faultEntry (h : s.Inv) (c : Cause) (opc a : BitVec 8) : (s.faultEntry c opc a).Inv :=
  ⟨h.tree, h.codes, h.codesNeedTree, h.cursor, h.packer, c.code_le_six⟩

theorem State.Inv.withControl (h : s.Inv) (upad : BitVec 3) (epk udc : Bool) :
    { s with upad := upad, epk := epk, udc := udc }.Inv :=
  ⟨h.tree, h.codes, h.codesNeedTree, h.cursor, h.packer, h.cause⟩

theorem State.Inv.withOutsym (h : s.Inv) (outsym : List Symbol) : { s with outsym := outsym }.Inv :=
  ⟨h.tree, h.codes, h.codesNeedTree, h.cursor, h.packer, h.cause⟩

theorem State.Inv.withOutbit (h : s.Inv) (outbit : List Bool) : { s with outbit := outbit }.Inv :=
  ⟨h.tree, h.codes, h.codesNeedTree, h.cursor, h.packer, h.cause⟩

/-! ## The tables -/

/-- With TV and CV cleared FREQ may be anything. -/
theorem State.Inv.withFreq (h : s.Inv) (freq : Vector Count 256) : { s with freq := freq }.invalidate.Inv where
  tree htv := by cases htv
  codes hcv := by cases hcv
  codesNeedTree hcv := by cases hcv
  cursor htv := by cases htv
  packer := h.packer
  cause := h.cause

theorem State.Inv.afterBuild (h : s.Inv) : (s.writeTree (buildTree s.freq s.nodes)).treePublished.Inv where
  tree _ := ⟨s.nodes, rfl⟩
  codes hcv := by cases hcv
  codesNeedTree hcv := by cases hcv
  cursor _ := by
    refine ⟨fun _ => rfl, fun h2 => ⟨?_, le_rfl⟩⟩
    have h2 : 2 ≤ (seedLive s.freq).length := buildTree_nleaves_val s.freq s.nodes ▸ h2
    simp [buildTree_root_val h2]
  packer := h.packer
  cause := h.cause

theorem State.Inv.afterGen (h : s.Inv) {tables : CodeTables} (htv : s.tv = true)
    (hg : genCodes s.tree = some tables) : (s.writeCodes tables).codesPublished.Inv :=
  ⟨h.tree, fun _ => hg, fun _ => htv, h.cursor, h.packer, h.cause⟩

/-! ## The packer -/

theorem State.Inv.withPacker (h : s.Inv) {pacc : BitVec 8} {pn : BitVec 3} (hp : pacc.toNat < 2 ^ pn.toNat)
    (padlen : BitVec 3) (outbyte : List Byte) :
    { s with pacc := pacc, pn := pn, padlen := padlen, outbyte := outbyte }.Inv :=
  ⟨h.tree, h.codes, h.codesNeedTree, h.cursor, hp, h.cause⟩

/-- One bit shifted in makes an accumulator of `n` bits one of `n + 1`. -/
theorem shiftIn_lt (pacc : BitVec 8) {n : Nat} (h : pacc.toNat < 2 ^ n) (b : Bool) :
    ((pacc <<< 1) ||| (BitVec.ofBool b).setWidth 8).toNat < 2 ^ (n + 1) := by
  rw [BitVec.toNat_or]
  refine Nat.or_lt_two_pow ?_ ?_
  · rw [BitVec.toNat_shiftLeft]
    refine (Nat.mod_le _ _).trans_lt ?_
    omega
  · refine lt_of_lt_of_le (b := 2) ?_ (Nat.le_self_pow (by omega) 2)
    cases b <;> decide

theorem State.Inv.afterPackBit (h : s.Inv) (b : Bool) : (packBit s b).Inv := by
  unfold packBit
  split
  · exact h.withPacker (by decide) s.padlen _
  · next hpn =>
    have hlt : s.pn.toNat + 1 < 2 ^ 3 := by
      have := s.pn.isLt
      have : s.pn.toNat ≠ 7 := fun e => hpn (BitVec.eq_of_toNat_eq e)
      omega
    refine h.withPacker (pn := s.pn + 1#3) ?_ s.padlen s.outbyte
    rw [BitVec.toNat_add, BitVec.toNat_ofNat, Nat.mod_eq_of_lt hlt]
    exact shiftIn_lt s.pacc h.packer b

theorem State.Inv.afterFlush (h : s.Inv) : (flushed s).Inv := by
  unfold flushed
  split
  · exact h.withPacker (by decide) _ s.outbyte
  · exact h.withPacker (by decide) _ _

theorem State.Inv.after_foldl_emitCodeBit (h : s.Inv) (bits : List Bool) : (bits.foldl emitCodeBit s).Inv := by
  refine List.foldlRecOn bits emitCodeBit h fun u hu b _ => ?_
  unfold emitCodeBit
  split
  · exact hu.afterPackBit b
  · exact hu.withOutbit _

/-! ## The decoder's cursor -/

theorem State.Inv.withCursor (h : s.Inv) {cur : NodeIdx} (h2 : 2 ≤ s.nleaves.val)
    (hc : s.tv = true → 256 ≤ cur.val ∧ cur ≤ s.root) (outsym : List Symbol) :
    { s with cur := cur, outsym := outsym }.Inv :=
  ⟨h.tree, h.codes, h.codesNeedTree,
    fun htv => ⟨fun h1 => absurd (h2.trans h1) (by decide), fun _ => hc htv⟩, h.packer, h.cause⟩

/-- In a normal tree the cursor moves to a smaller index (10_state R26 item 2). -/
theorem State.Inv.childOn_lt (h : s.Inv) (htv : s.tv = true) (h2 : 2 ≤ s.nleaves.val) (b : Bool) :
    childOn (s.readNode s.cur) b < s.cur := by
  obtain ⟨old, hold⟩ := h.tree htv
  obtain ⟨hcur, hroot⟩ := (h.cursor htv).2 h2
  have hn : s.nleaves = (buildTree s.freq old).nleaves := congrArg BuiltTree.nleaves hold
  have hr : s.root = (buildTree s.freq old).root := congrArg BuiltTree.root hold
  have hnodes : s.nodes = (buildTree s.freq old).nodes := congrArg BuiltTree.nodes hold
  rw [hn, buildTree_nleaves_val] at h2
  rw [hr] at hroot
  obtain ⟨hl, hrt, -⟩ := buildTree_children h2 hcur hroot
  rw [State.readNode, hnodes]
  cases b with
  | false => exact hl
  | true => exact hrt

theorem State.Inv.afterDecBit (h : s.Inv) (htv : s.tv = true) (h0 : s.nleaves ≠ 0) (b : Bool) : (decBit s b).Inv := by
  by_cases h1 : s.nleaves = 1
  · simpa [decBit, h1] using h
  · have h2 : 2 ≤ s.nleaves.val := by
      have : s.nleaves.val ≠ 0 := fun e => h0 (Fin.ext e)
      have : s.nleaves.val ≠ 1 := fun e => h1 (Fin.ext e)
      omega
    obtain ⟨hcur, hroot⟩ := (h.cursor htv).2 h2
    rw [Fin.le_def] at hroot
    rcases decBit_normal h1 b with ⟨-, hd⟩ | ⟨hi, hd⟩ <;> rw [hd]
    · exact h.withCursor h2 (fun _ => ⟨by omega, le_rfl⟩) _
    · have hlt := h.childOn_lt htv h2 b
      exact h.withCursor h2 (fun _ => ⟨hi, hlt.le.trans hroot⟩) s.outsym

theorem State.Inv.after_foldl_decBit (h : s.Inv) (htv : s.tv = true) (h0 : s.nleaves ≠ 0) (bits : List Bool) :
    (bits.foldl decBit s).Inv := by
  induction bits generalizing s with
  | nil => exact h
  | cons b bits ih =>
    refine ih (h.afterDecBit htv h0 b) ?_ ?_ <;> rw [decBit_only] <;> assumption

/-- The admission check of an unpacker command lets the decoder have bits only when there is a leaf. -/
theorem State.Inv.after_foldl_deliverBit (h : s.Inv) {nbits : Nat} (hn : 0 < nbits) (hc : unpackCheck nbits s = none)
    (bits : List Bool) : (bits.foldl deliverBit s).Inv := by
  rcases Bool.eq_false_or_eq_true s.udc with hu | hu
  · rw [unpackCheck, if_pos hu] at hc
    obtain ⟨htv, h0⟩ := decCheck_eq_none.1 hc
    rw [foldl_deliverBit_udc hu]
    exact h.after_foldl_decBit htv (fun e => hn.ne' (h0 e)) bits
  · rw [foldl_deliverBit_outbit hu]
    exact h.withOutbit _

/-- ULAST strips at most seven bits. -/
theorem upad_bits_pos (s : State) : 0 < 8 - s.upad.toNat := by
  have := s.upad.isLt
  omega

/-! ## Commands and steps -/

theorem State.Inv.afterDone {i : Instr} {s' : State} {v : BitVec 32} (h : s.Inv)
    (hb : cmdBody i s = .done s' v) : s'.Inv := by
  have heff := cmdBody_done hb
  cases i with
  | nop | rdcsr _ | rdfreq _ | rdclen _ | rdcode _ _ => obtain rfl := heff; exact h
  | srst => obtain rfl := heff; exact inv_toReset s
  | wrcsr _ _ => obtain ⟨upad, epk, udc, rfl⟩ := heff; exact h.withControl upad epk udc
  | clear | count _ | wrfreq _ _ => obtain ⟨freq, rfl⟩ := heff; exact h.withFreq freq
  | build => obtain rfl := heff; exact h.afterBuild
  | gen => obtain ⟨htv, tables, hg, rfl⟩ := heff; exact h.afterGen htv hg
  | enc sym => rw [encBody_done hb]; exact h.after_foldl_emitCodeBit _
  | pbit bit => cases hb; exact h.afterPackBit bit
  | pflush => cases hb; exact h.afterFlush
  | ubyte byte =>
    obtain ⟨hc, rfl⟩ := ubyteBody_done hb
    exact h.after_foldl_deliverBit (by omega) hc _
  | ulast byte =>
    obtain ⟨hc, outsym, rfl⟩ := ulastBody_done hb
    exact (h.after_foldl_deliverBit (upad_bits_pos s) hc _).withOutsym outsym
  | dbit bit =>
    simp only [cmdBody] at hb
    split at hb <;> cases hb
    next hc =>
    obtain ⟨htv, h0⟩ := decCheck_eq_none.1 hc
    exact h.afterDecBit htv (fun e => one_ne_zero (h0 e)) bit
  | dend => obtain ⟨outsym, rfl⟩ := heff; exact h.withOutsym outsym

theorem State.Inv.afterRaise {i : Instr} {c : Cause} {s' : State} (h : s.Inv)
    (hb : cmdBody i s = .raise c s') : s'.Inv := by
  rcases cmdBody_raise hb with rfl | ⟨byte, -, hc, rfl⟩
  · exact h
  · exact h.after_foldl_deliverBit (upad_bits_pos s) hc _

theorem State.Inv.afterIllegalWord (h : s.Inv) (w : CmdWord) : (s.illegalWord w).Inv := by
  unfold State.illegalWord
  split
  · exact h.respond _ _
  · exact h.faultEntry _ _ _

theorem State.Inv.afterExec {i : Instr} {t : State} (h : s.Inv) (ht : exec i s = .next t) : t.Inv := by
  rcases exec_next ht with ⟨-, rfl⟩ | ⟨-, s', v, hb, rfl⟩ | ⟨-, c, s', hb, rfl⟩
  · exact h.respond _ _
  · exact (h.afterDone hb).respond _ _
  · exact (h.afterRaise hb).faultEntry _ _ _

end Updates

/-- Settles O20: by the kinds of step, and for a command by what its pseudocode writes. -/
theorem stepKeepsInvariant : Obligations.StepKeepsInvariant := by
  intro s t hinv ht
  rcases step_cases s with ⟨-, h⟩ | ⟨rest, -, h⟩ | ⟨w, rest, -, -, h⟩ | ⟨w, rest, i, -, -, h⟩ <;> rw [h] at ht
  · cases ht; exact hinv
  · cases ht; exact (inv_toReset s).withInput rest
  · cases ht; exact (hinv.withInput rest).afterIllegalWord w
  · exact (hinv.withInput rest).afterExec ht

end Sys2Proof.Machine

/-! PROOFS, 10_state, single steps (R20, R34, R37, R44, R49): reset, the halted state, the response and what each
command writes, read off from what a step can be. -/

namespace Sys2Proof.Machine

/-! ## The steps that run no command (60_exceptions R245, R260, 70_reset R270) -/

theorem step_of_idle {s : State} (hin : s.input = []) : step s = .next s := by
  simp [step, fetch, hin]

theorem step_of_reset {s : State} {rest : List HostInput} (hin : s.input = .reset :: rest) :
    step s = .next { s.toReset with input := rest } := by
  simp [step, fetch, hin]

theorem step_of_illegal {s : State} {w : CmdWord} {rest : List HostInput} (hin : s.input = .command w :: rest)
    (hw : ∀ i, decode w ≠ .ok i) : step s = .next ({ s with input := rest }.illegalWord w) := by
  cases hd : decode w with
  | ok i => exact absurd hd (hw i)
  | error e => simp [step, fetch, hin, hd]

/-! ## Reset (10_state R49) -/

/-- R49 says nothing of the streams and of what the host presents. -/
theorem resetValues_reset (outbyte : List Byte) (outsym : List Symbol) (outbit : List Bool) (rsp : List RspWord)
    (input : List HostInput) :
    { State.reset with
      outbyte := outbyte, outsym := outsym, outbit := outbit, rsp := rsp, input := input }.ResetValues := by
  constructor
  case freq =>
    intro sym
    simp [State.readFreq, State.reset]
  all_goals rfl

theorem exec_rdcsr {s : State} {csr : BitVec 8} {v : BitVec 32} (h : s.csrView csr = some v) :
    exec (.rdcsr csr) s = .next (s.respond statOk v) := by
  simp [exec, execRdcsr, h, runAlways, CmdResult.conclude]

/-- Settles O16: the registers one by one, and each CSR by its view. -/
theorem resetStateReads : Obligations.ResetStateReads := by
  refine ⟨resetValues_reset [] [] [] [] [], ?_⟩
  simp only [List.forall_mem_cons]
  exact ⟨exec_rdcsr rfl, exec_rdcsr rfl, exec_rdcsr rfl, exec_rdcsr rfl, exec_rdcsr rfl, exec_rdcsr rfl,
    exec_rdcsr rfl, exec_rdcsr rfl, exec_rdcsr rfl, exec_rdcsr rfl, List.forall_mem_nil _⟩

/-- Settles O17: `toReset` has R49's values and the streams of before. -/
theorem resetInputResets : Obligations.ResetInputResets := by
  intro s rest hin
  exact ⟨_, step_of_reset hin, resetValues_reset _ _ _ _ _, rfl, rfl, rfl, rfl, rfl⟩

/-- Settles O18: SRST is reset under the dispatch procedure that never refuses. -/
theorem srstResets : Obligations.SrstResets := by
  intro s
  exact ⟨s.toReset.respond statOk 0#32, rfl, resetValues_reset _ _ _ _ _, rfl, rfl, rfl, rfl, rfl⟩

/-! ## The halted state (60_exceptions R245, R249) -/

theorem runsHalted_cases {i : Instr} {s : State} (h : runsHalted i s = true) :
    i = .srst ∨ ∃ csr, i = .rdcsr csr := by
  cases i with
  | srst => exact .inl rfl
  | rdcsr csr => exact .inr ⟨csr, rfl⟩
  | _ => cases h

/-- What a halted CORE answers to a command: SRST clears ERR, anything else keeps it. -/
theorem exec_of_halted {i : Instr} {s t : State} (hhalt : s.errCause ≠ 0#4) (h : exec i s = .next t) :
    (i = .srst ∧ t = s.toReset.respond statOk 0#32) ∨ ∃ stat rdata, t = s.respond stat rdata := by
  rcases exec_next h with ⟨-, rfl⟩ | ⟨h0 | hr, s', v, hb, rfl⟩ | ⟨h0, -⟩
  · exact .inr ⟨_, _, rfl⟩
  · exact absurd h0 hhalt
  · rcases runsHalted_cases hr with rfl | ⟨csr, rfl⟩
    · cases hb
      exact .inl ⟨rfl, rfl⟩
    · obtain rfl : s' = s := cmdBody_done hb
      exact .inr ⟨_, _, rfl⟩
  · exact absurd h0 hhalt

theorem illegalWord_of_halted {s : State} (hhalt : s.errCause ≠ 0#4) (w : CmdWord) :
    s.illegalWord w = s.refuseHalted := by
  simp [State.illegalWord, hhalt]

/-- Settles O10: of the four kinds of step only the reset input and SRST do more than respond. -/
theorem haltLeftOnlyByReset : Obligations.HaltLeftOnlyByReset := by
  intro s t hhalt ht
  rcases step_cases s with ⟨-, h⟩ | ⟨rest, hin, h⟩ | ⟨w, rest, -, -, h⟩ | ⟨w, rest, i, hin, hd, h⟩ <;> rw [h] at ht
  · cases ht
    exact .inr ⟨rfl, rfl, rfl⟩
  · cases ht
    exact .inl ⟨.inl ⟨rest, hin⟩, rfl, rfl, rfl⟩
  · rw [illegalWord_of_halted (s := { s with input := rest }) hhalt] at ht
    cases ht
    exact .inr ⟨rfl, rfl, rfl⟩
  · rcases exec_of_halted (s := { s with input := rest }) hhalt ht with ⟨rfl, rfl⟩ | ⟨stat, rdata, rfl⟩
    · exact .inl ⟨.inr ⟨w, rest, hin, hd⟩, rfl, rfl, rfl⟩
    · exact .inr ⟨rfl, rfl, rfl⟩

/-! ## What a completed command writes (10_state R20) -/

/-- Settles O15: a completed command is neither refused nor faulted, and `CompletedEffect` is R20's column command by
command. -/
theorem writtenByTable : Obligations.WrittenByTable := by
  intro i s t h0 h ht
  rcases exec_next h with ⟨hhalt, -⟩ | ⟨-, s', v, hb, rfl⟩ | ⟨-, c, s', -, rfl⟩
  · exact absurd h0 hhalt
  · have heff := cmdBody_done hb
    cases i with
    | nop | rdcsr _ | rdfreq _ | rdclen _ | rdcode _ _ | srst | build => obtain rfl := heff; simp
    | clear | count _ | wrfreq _ _ | dend => obtain ⟨_, rfl⟩ := heff; simp
    | gen => obtain ⟨-, _, -, rfl⟩ := heff; simp
    | dbit _ => obtain ⟨_, _, rfl⟩ := heff; simp
    | wrcsr _ _ | pbit _ | ubyte _ | ulast _ => obtain ⟨_, _, _, rfl⟩ := heff; simp
    | enc _ | pflush => obtain ⟨_, _, _, _, rfl⟩ := heff; simp
  · exact absurd ht c.code_ne_zero

/-- No pseudocode touches RSP: the response is the dispatch procedure's (10_state R44). -/
theorem CompletedEffect.rsp_eq {i : Instr} {s s' : State} (heff : CompletedEffect i s s') : s'.rsp = s.rsp := by
  cases i with
  | nop | rdcsr _ | rdfreq _ | rdclen _ | rdcode _ _ | srst | build => obtain rfl := heff; rfl
  | clear | count _ | wrfreq _ _ | dend => obtain ⟨_, rfl⟩ := heff; rfl
  | gen => obtain ⟨-, _, -, rfl⟩ := heff; rfl
  | dbit _ => obtain ⟨_, _, rfl⟩ := heff; rfl
  | wrcsr _ _ | pbit _ | ubyte _ | ulast _ => obtain ⟨_, _, _, rfl⟩ := heff; rfl
  | enc _ | pflush => obtain ⟨_, _, _, _, rfl⟩ := heff; rfl

/-- A faulting command moved the decoder at most. -/
theorem cmdBody_raise_only {i : Instr} {c : Cause} {s s' : State} (h : cmdBody i s = .raise c s') :
    ∃ cur outsym outbit, s' = { s with cur := cur, outsym := outsym, outbit := outbit } := by
  rcases cmdBody_raise h with rfl | ⟨byte, -, -, rfl⟩
  · exact ⟨s'.cur, s'.outsym, s'.outbit, rfl⟩
  · exact foldl_deliverBit_only _ _

theorem exec_rsp {i : Instr} {s t : State} (h : exec i s = .next t) :
    ∃ stat rdata, t.rsp = s.rsp ++ [rspWord stat rdata] ∧ (stat ≠ 0#4 → rdata = 0#32) := by
  rcases exec_next h with ⟨-, rfl⟩ | ⟨-, s', v, hb, rfl⟩ | ⟨-, c, s', hb, rfl⟩
  · exact ⟨statHalted, 0#32, rfl, fun _ => rfl⟩
  · exact ⟨statOk, v, by simp [(cmdBody_done hb).rsp_eq], fun hne => absurd rfl hne⟩
  · obtain ⟨_, _, _, rfl⟩ := cmdBody_raise_only hb
    exact ⟨c.code, 0#32, rfl, fun _ => rfl⟩

theorem illegalWord_rsp (s : State) (w : CmdWord) :
    ∃ stat, (s.illegalWord w).rsp = s.rsp ++ [rspWord stat 0#32] := by
  unfold State.illegalWord
  split
  · exact ⟨_, rfl⟩
  · exact ⟨_, rfl⟩

/-- Settles O11: the answer to an illegal word, or the dispatch procedure's one response. -/
theorem oneResponsePerCommand : Obligations.OneResponsePerCommand := by
  intro s t w rest hin ht
  cases hd : decode w with
  | ok i =>
    rw [step_of_command hin hd] at ht
    exact exec_rsp (s := { s with input := rest }) ht
  | error e =>
    rw [step_of_illegal hin (by simp [hd])] at ht
    cases ht
    obtain ⟨stat, h⟩ := illegalWord_rsp { s with input := rest } w
    exact ⟨stat, 0#32, h, fun _ => rfl⟩

/-! ## Stale tables (10_state R31, R32, 20_memory R76) -/

/-- A changed FREQ leaves no valid tree or codes, and a changed tree no valid codes. -/
def MarksStale (s t : State) : Prop :=
  (t.freq ≠ s.freq → t.tv = false ∧ t.cv = false) ∧
    (t.nodes ≠ s.nodes ∨ t.nleaves ≠ s.nleaves ∨ t.root ≠ s.root → t.cv = false)

theorem marksStale_of_eq {s t : State} (hf : t.freq = s.freq) (htree : t.tree = s.tree) : MarksStale s t := by
  injection htree with hn hl hr
  simp [MarksStale, hf, hn, hl, hr]

theorem marksStale_of_invalid {s t : State} (htv : t.tv = false) (hcv : t.cv = false) : MarksStale s t :=
  ⟨fun _ => ⟨htv, hcv⟩, fun _ => hcv⟩

theorem CompletedEffect.marksStale {i : Instr} {s s' : State} (heff : CompletedEffect i s s') : MarksStale s s' := by
  cases i with
  | srst => obtain rfl := heff; exact marksStale_of_invalid rfl rfl
  | clear | count _ | wrfreq _ _ => obtain ⟨_, rfl⟩ := heff; exact marksStale_of_invalid rfl rfl
  | build => obtain rfl := heff; exact ⟨fun h => absurd rfl h, fun _ => rfl⟩
  | nop | rdcsr _ | rdfreq _ | rdclen _ | rdcode _ _ => obtain rfl := heff; exact marksStale_of_eq rfl rfl
  | dend => obtain ⟨_, rfl⟩ := heff; exact marksStale_of_eq rfl rfl
  | gen => obtain ⟨-, _, -, rfl⟩ := heff; exact marksStale_of_eq rfl rfl
  | dbit _ => obtain ⟨_, _, rfl⟩ := heff; exact marksStale_of_eq rfl rfl
  | wrcsr _ _ | pbit _ | ubyte _ | ulast _ => obtain ⟨_, _, _, rfl⟩ := heff; exact marksStale_of_eq rfl rfl
  | enc _ | pflush => obtain ⟨_, _, _, _, rfl⟩ := heff; exact marksStale_of_eq rfl rfl

theorem exec_marksStale {i : Instr} {s t : State} (h : exec i s = .next t) : MarksStale s t := by
  rcases exec_next h with ⟨-, rfl⟩ | ⟨-, s', v, hb, rfl⟩ | ⟨-, c, s', hb, rfl⟩
  · exact marksStale_of_eq rfl rfl
  · exact (cmdBody_done hb).marksStale
  · obtain ⟨_, _, _, rfl⟩ := cmdBody_raise_only hb
    exact marksStale_of_eq rfl rfl

theorem illegalWord_marksStale (s : State) (w : CmdWord) : MarksStale s (s.illegalWord w) := by
  unfold State.illegalWord
  split
  · exact marksStale_of_eq rfl rfl
  · exact marksStale_of_eq rfl rfl

/-- Settles O56: CLEAR, COUNT, WRFREQ and the resets clear both flags, BUILD clears CV, and nothing else writes FREQ or
the tree. -/
theorem staleTablesAreMarked : Obligations.StaleTablesAreMarked := by
  intro s t ht
  rcases step_cases s with ⟨-, h⟩ | ⟨rest, -, h⟩ | ⟨w, rest, -, -, h⟩ | ⟨w, rest, i, -, -, h⟩ <;> rw [h] at ht
  · cases ht
    exact marksStale_of_eq rfl rfl
  · cases ht
    exact marksStale_of_invalid rfl rfl
  · cases ht
    exact illegalWord_marksStale { s with input := rest } w
  · exact exec_marksStale (s := { s with input := rest }) ht

end Sys2Proof.Machine

/-! PROOFS, 10_state, the streams (R48): the streams are history. One commutation says both that nothing reads them and
that they only grow: what a step does with some history before it is what it does without, with the history before it. -/

namespace Sys2Proof.Machine

/-- What the four output streams had been given earlier. -/
structure History where
  outbyte : List Byte
  outsym : List Symbol
  outbit : List Bool
  rsp : List RspWord

/-- The state `s` with a history before what its streams hold. -/
def State.after (h : History) (s : State) : State :=
  { s with
    outbyte := h.outbyte ++ s.outbyte, outsym := h.outsym ++ s.outsym, outbit := h.outbit ++ s.outbit,
    rsp := h.rsp ++ s.rsp }

/-- A history before the end of a command. -/
def CmdResult.after (h : History) : CmdResult → CmdResult
  | .done s rdata => .done (s.after h) rdata
  | .raise c s => .raise c (s.after h)
  | .stop f => .stop f

/-- A history before the outcome of a step. -/
def outcomeAfter (h : History) : Host.Outcome State Fault Refusal → Host.Outcome State Fault Refusal
  | .next s => .next (s.after h)
  | .fault r => .fault r
  | .refused r => .refused r

section Commutes

variable (h : History) (s : State)

/-! ## The shared operations -/

theorem emitSyms_after (vs : List Symbol) : (s.after h).emitSyms vs = (s.emitSyms vs).after h := by
  simp [State.emitSyms, State.after]

theorem emitBit_after (b : Bool) : (s.after h).emitBit b = (s.emitBit b).after h := by
  simp [State.emitBit, State.after]

theorem respond_after (stat : BitVec 4) (rdata : BitVec 32) :
    (s.after h).respond stat rdata = (s.respond stat rdata).after h := by
  simp [State.respond, State.after]

theorem faultEntry_after (c : Cause) (opc a : BitVec 8) :
    (s.after h).faultEntry c opc a = (s.faultEntry c opc a).after h :=
  respond_after h { s with errCause := c.code, errInfo := a, errOpc := opc } c.code 0#32

theorem illegalWord_after (w : CmdWord) : (s.after h).illegalWord w = (s.illegalWord w).after h := by
  rw [State.illegalWord, State.illegalWord, apply_ite (State.after h)]
  exact ite_congr rfl (fun _ => respond_after h s _ _) fun _ => faultEntry_after h s _ _ _

theorem conclude_after (i : Instr) (r : CmdResult) : (r.after h).conclude i = outcomeAfter h (r.conclude i) := by
  cases r with
  | done s v => exact congrArg Host.Outcome.next (respond_after h s _ _)
  | raise c s => exact congrArg Host.Outcome.next (faultEntry_after h s _ _ _)
  | stop f => rfl

/-! ## The micro-operations -/

theorem packBit_after (b : Bool) : packBit (s.after h) b = (packBit s b).after h := by
  unfold packBit
  by_cases hpn : s.pn = 7#3 <;> simp [hpn, State.after]

theorem flushed_after : flushed (s.after h) = (flushed s).after h := by
  unfold flushed
  by_cases hpn : s.pn = 0#3 <;> simp [hpn, State.after]

theorem emitCodeBit_after (b : Bool) : emitCodeBit (s.after h) b = (emitCodeBit s b).after h := by
  unfold emitCodeBit
  rw [apply_ite (State.after h)]
  exact ite_congr rfl (fun _ => packBit_after h s b) fun _ => emitBit_after h s b

theorem decBit_after (b : Bool) : decBit (s.after h) b = (decBit s b).after h := by
  rw [decBit, decBit, apply_ite (State.after h)]
  refine ite_congr rfl (fun _ => rfl) fun _ => ?_
  dsimp only
  rw [apply_ite (State.after h)]
  refine ite_congr rfl (fun _ => ?_) fun _ => rfl
  simp [State.emitSyms, State.after, State.readNode]

theorem deliverBit_after (b : Bool) : deliverBit (s.after h) b = (deliverBit s b).after h := by
  unfold deliverBit
  rw [apply_ite (State.after h)]
  exact ite_congr rfl (fun _ => decBit_after h s b) fun _ => emitBit_after h s b

/-- What commutes bit by bit commutes over a bit sequence. -/
theorem foldl_after {f : State → Bool → State} (hf : ∀ s b, f (s.after h) b = (f s b).after h) (bits : List Bool) :
    bits.foldl f (s.after h) = (bits.foldl f s).after h :=
  List.foldl_hom (State.after h) hf

/-! ## The commands -/

theorem decEnd_after : decEnd (s.after h) = (decEnd s).after h := by
  simp only [decEnd, apply_ite (CmdResult.after h)]
  refine ite_congr rfl (fun _ => rfl) fun _ => ite_congr rfl (fun _ => ?_) fun _ => ite_congr rfl ?_ ?_
  · exact congrArg (CmdResult.done · 0#32) (emitSyms_after h s _)
  · exact fun _ => rfl
  · exact fun _ => rfl

theorem genBody_after : genBody (s.after h) = (genBody s).after h := by
  rw [genBody, genBody, apply_ite (CmdResult.after h)]
  refine ite_congr rfl (fun _ => ?_) fun _ => rfl
  rw [show (s.after h).tree = s.tree from rfl]
  cases genCodes s.tree <;> rfl

theorem encBody_after (sym : Symbol) : encBody sym (s.after h) = (encBody sym s).after h := by
  rw [encBody, encBody, apply_ite (CmdResult.after h)]
  refine ite_congr rfl (fun _ => rfl) fun _ => ?_
  exact congrArg (CmdResult.done · 0#32) (foldl_after h s (emitCodeBit_after h) _)

theorem ubyteBody_after (byte : Byte) : ubyteBody byte (s.after h) = (ubyteBody byte s).after h := by
  rw [ubyteBody, ubyteBody, show unpackCheck 8 (s.after h) = unpackCheck 8 s from rfl]
  cases unpackCheck 8 s with
  | some c => rfl
  | none => exact congrArg (CmdResult.done · 0#32) (foldl_after h s (deliverBit_after h) _)

theorem ulastBody_after (byte : Byte) : ulastBody byte (s.after h) = (ulastBody byte s).after h := by
  have hfold := foldl_after h s (deliverBit_after h) (unitBits byte s.upad.toNat)
  rw [ulastBody, ulastBody, show unpackCheck (8 - (s.after h).upad.toNat) (s.after h) =
    unpackCheck (8 - s.upad.toNat) s from rfl]
  cases unpackCheck (8 - s.upad.toNat) s with
  | some c => rfl
  | none =>
    dsimp only
    rw [apply_ite (CmdResult.after h)]
    refine ite_congr rfl (fun _ => ?_) fun _ => congrArg (CmdResult.done · 0#32) hfold
    exact (congrArg decEnd hfold).trans (decEnd_after h _)

theorem csrWrite_after (csr : BitVec 8) (data : BitVec 32) :
    (s.after h).csrWrite csr data = (s.csrWrite csr data).map (State.after h) := by
  simp only [State.csrWrite, apply_ite (Option.map (State.after h))]
  rfl

theorem cmdBody_after (i : Instr) : cmdBody i (s.after h) = (cmdBody i s).after h := by
  cases i with
  | nop | srst | clear | rdfreq _ | build => rfl
  | rdcsr csr =>
    rw [cmdBody, cmdBody, show (s.after h).csrView csr = s.csrView csr from rfl]
    cases s.csrView csr <;> rfl
  | wrcsr csr data =>
    rw [cmdBody, cmdBody, csrWrite_after]
    cases s.csrWrite csr data <;> rfl
  | count _ | wrfreq _ _ | rdclen _ | rdcode _ _ =>
    simp only [cmdBody, countBody, apply_ite (CmdResult.after h)]
    rfl
  | gen => exact genBody_after h s
  | enc sym => exact encBody_after h s sym
  | pbit bit => exact congrArg (CmdResult.done · 0#32) (packBit_after h s bit)
  | pflush => exact congrArg (CmdResult.done · 0#32) (flushed_after h s)
  | ubyte byte => exact ubyteBody_after h s byte
  | ulast byte => exact ulastBody_after h s byte
  | dbit bit =>
    rw [cmdBody, cmdBody, show decCheck 1 (s.after h) = decCheck 1 s from rfl]
    cases decCheck 1 s with
    | some c => rfl
    | none => exact congrArg (CmdResult.done · 0#32) (decBit_after h s bit)
  | dend =>
    rw [cmdBody, cmdBody, show decCheck 0 (s.after h) = decCheck 0 s from rfl]
    cases decCheck 0 s with
    | some c => rfl
    | none => exact decEnd_after h s

theorem exec_after (i : Instr) : exec i (s.after h) = outcomeAfter h (exec i s) := by
  have hbody : (cmdBody i (s.after h)).conclude i = outcomeAfter h ((cmdBody i s).conclude i) := by
    rw [cmdBody_after, conclude_after]
  rw [exec_eq, exec_eq, apply_ite (outcomeAfter h)]
  refine ite_congr ?_ (fun _ => hbody) fun _ => ?_
  · cases i <;> rfl
  · rw [runCommand, runCommand, apply_ite (outcomeAfter h)]
    exact ite_congr rfl (fun _ => congrArg Host.Outcome.next (respond_after h s _ _)) fun _ => hbody

theorem step_after : step (s.after h) = outcomeAfter h (step s) := by
  rcases step_cases s with ⟨hin, hs⟩ | ⟨rest, hin, hs⟩ | ⟨w, rest, hin, hw, hs⟩ | ⟨w, rest, i, hin, hd, hs⟩ <;>
    rw [hs]
  · exact step_of_idle (s := s.after h) hin
  · exact step_of_reset (s := s.after h) hin
  · rw [step_of_illegal (s := s.after h) hin hw]
    exact congrArg Host.Outcome.next (illegalWord_after h { s with input := rest } w)
  · rw [step_of_command (s := s.after h) hin hd]
    exact exec_after h { s with input := rest } i

end Commutes

/-! ## The statements -/

/-- The state with its streams emptied. -/
def State.withoutHistory (s : State) : State := { s with outbyte := [], outsym := [], outbit := [], rsp := [] }

theorem withoutHistory_after (s : State) (outbyte : List Byte) (outsym : List Symbol) (outbit : List Bool)
    (rsp : List RspWord) :
    s.withoutHistory.after ⟨outbyte, outsym, outbit, rsp⟩ =
      { s with outbyte := outbyte, outsym := outsym, outbit := outbit, rsp := rsp } := by
  simp [State.withoutHistory, State.after]

theorem outcomeAfter_eq_next {h : History} {o : Host.Outcome State Fault Refusal} {t : State}
    (ho : outcomeAfter h o = .next t) : ∃ u, o = .next u ∧ t = u.after h := by
  cases o with
  | next u => exact ⟨u, rfl, (Host.Outcome.next.inj ho).symm⟩
  | fault r => cases ho
  | refused r => cases ho

/-- Settles O57: run the step without history; what it appends then it appends after any history. -/
theorem streamsNeverReadBack : Obligations.StreamsNeverReadBack := by
  intro s t outbyte outsym outbit rsp ht
  have hs : s = s.withoutHistory.after ⟨s.outbyte, s.outsym, s.outbit, s.rsp⟩ :=
    (withoutHistory_after s _ _ _ _).symm
  rw [hs, step_after] at ht
  obtain ⟨u, hu, rfl⟩ := outcomeAfter_eq_next ht
  refine ⟨u.outbyte, u.outsym, u.outbit, u.rsp, rfl, rfl, rfl, rfl, ?_⟩
  rw [← withoutHistory_after, step_after, hu]
  rfl

/-- Settles O12: what a step leaves in a stream is what it held and what the step appended. -/
theorem streamsOnlyGrow : Obligations.StreamsOnlyGrow := by
  intro s t ht
  obtain ⟨bytes, syms, bits, responses, hbytes, hsyms, hbits, hrsp, -⟩ := streamsNeverReadBack s t [] [] [] [] ht
  exact ⟨⟨bytes, hbytes.symm⟩, ⟨syms, hsyms.symm⟩, ⟨bits, hbits.symm⟩, ⟨responses, hrsp.symm⟩⟩

end Sys2Proof.Machine

/-! PROOFS, 10_state, the frequency table (R23): COUNT adds one to its symbol's entry, so a sequence of them adds every
symbol's number of occurrences. -/

namespace Sys2Proof.Machine

/-- COUNT below the counter's maximum (40_frequency_counter R103). -/
theorem exec_count_of_lt {s : State} {sym : Symbol} (h0 : s.errCause = 0#4)
    (hlt : (s.readFreq sym).toNat < 2 ^ 32 - 1) :
    exec (.count sym) s =
      .next ((s.writeFreq sym (s.readFreq sym + 1#32)).invalidate.respond statOk 0#32) := by
  have hne : s.readFreq sym ≠ Config.countMax := by
    intro e
    rw [e] at hlt
    exact absurd hlt (by decide)
  exact runCommand_of_done (.count sym) h0 (by simp [countBody, hne])

theorem readFreq_count {s : State} {sym : Symbol} (hlt : (s.readFreq sym).toNat < 2 ^ 32 - 1) (sym' : Symbol) :
    ((s.writeFreq sym (s.readFreq sym + 1#32)).readFreq sym').toNat =
      (s.readFreq sym').toNat + if sym = sym' then 1 else 0 := by
  by_cases hs : sym = sym'
  · subst hs
    rw [State.readFreq_writeFreq_self, if_pos rfl, BitVec.toNat_add]
    exact Nat.mod_eq_of_lt (by simpa using (by omega : (s.readFreq sym).toNat + 1 < 2 ^ 32))
  · rw [State.readFreq_writeFreq_other s _ hs, if_neg hs, Nat.add_zero]

/-- A sequence of COUNTs that overfills no counter runs without fault and tallies every symbol. -/
theorem countAll_tally (S : List Symbol) (s : State) (h0 : s.errCause = 0#4)
    (hle : ∀ sym, (s.readFreq sym).toNat + S.count sym ≤ 2 ^ 32 - 1) :
    ∃ t, countAll S s = some t ∧ t.errCause = 0#4 ∧
      ∀ sym, (t.readFreq sym).toNat = (s.readFreq sym).toNat + S.count sym := by
  induction S generalizing s with
  | nil => exact ⟨s, rfl, h0, fun sym => rfl⟩
  | cons a S ih =>
    have hlt : (s.readFreq a).toNat < 2 ^ 32 - 1 := by
      have := hle a
      rw [List.count_cons_self] at this
      omega
    have hone : ∀ sym, ((s.writeFreq a (s.readFreq a + 1#32)).readFreq sym).toNat + S.count sym =
        (s.readFreq sym).toNat + (a :: S).count sym := by
      intro sym
      rw [readFreq_count hlt, List.count_cons]
      simp only [beq_iff_eq]
      omega
    obtain ⟨t, ht, hok, htally⟩ := ih ((s.writeFreq a (s.readFreq a + 1#32)).invalidate.respond statOk 0#32) h0
      fun sym => (hone sym).trans_le (hle sym)
    refine ⟨t, ?_, hok, fun sym => (htally sym).trans (hone sym)⟩
    rw [countAll, exec_count_of_lt h0 hlt]
    exact ht

theorem countSum_eq_sum (freq : Vector Count 256) : countSum freq = ∑ sym : Fin 256, (freq[sym]).toNat :=
  (Fin.sum_univ_def _).symm

/-- The numbers of occurrences of all symbols add up to the length. -/
theorem sum_count_eq_length (S : List Symbol) : ∑ sym : Fin 256, S.count (BitVec.ofFin sym) = S.length := by
  have hinj : Function.Injective (BitVec.toFin : Symbol → Fin 256) := fun _ _ h => BitVec.toFin_inj.1 h
  have hcount : ∀ sym : Fin 256, S.count (BitVec.ofFin sym) = (S.map BitVec.toFin).count sym :=
    fun sym => (List.count_map_of_injective S _ hinj (BitVec.ofFin sym)).symm
  have hcard := Multiset.sum_count_eq_card (s := Finset.univ)
    (m := Multiset.ofList (S.map (BitVec.toFin : Symbol → Fin 256))) fun a _ => Finset.mem_univ a
  simp only [hcount]
  simpa using hcard

/-- Settles O29: each COUNT adds one to its own symbol, and the sum of counts grows by the sum of occurrences. -/
theorem countsTallySequence : Obligations.CountsTallySequence := by
  intro S s h0 hle
  obtain ⟨t, ht, hok, htally⟩ := countAll_tally S s h0 hle
  refine ⟨t, ht, hok, htally, ?_⟩
  calc countSum t.freq
    _ = ∑ sym : Fin 256, ((s.freq[sym]).toNat + S.count (BitVec.ofFin sym)) := by
      rw [countSum_eq_sum]
      exact Finset.sum_congr rfl fun sym _ => htally (BitVec.ofFin sym)
    _ = countSum s.freq + S.length := by
      rw [Finset.sum_add_distrib, ← countSum_eq_sum, sum_count_eq_length]

end Sys2Proof.Machine

/-! PROOFS, 30_encoding (R80 to R92, R96): `decodeRow` answers a command exactly when the three fields are that
command's own. Both round trips follow, and the opcode table is tied to the decoder through one row per command. -/

namespace Sys2Proof

/-! ## Fields whose upper bits are 0 (R81) -/

theorem getLsbD_eq_false_iff_exists_setWidth {n : Nat} (k : Nat) (x : BitVec n) :
    (∀ i, k ≤ i → x.getLsbD i = false) ↔ ∃ v : BitVec k, x = v.setWidth n := by
  constructor
  · intro h
    refine ⟨x.setWidth k, BitVec.eq_of_getLsbD_eq fun i hi => ?_⟩
    by_cases hk : i < k
    · simp [hi, hk]
    · simp [h i (by omega)]
  · rintro ⟨v, rfl⟩ i hi
    simp [BitVec.getLsbD_of_ge v i hi]

/-- The decoder's form of the check: the bits from `k` up are extracted and compared with 0. -/
theorem extractLsb'_eq_zero_iff {n k m : Nat} (h : k + m = n) (x : BitVec n) :
    x.extractLsb' k m = 0#m ↔ ∃ v : BitVec k, x = v.setWidth n := by
  rw [← getLsbD_eq_false_iff_exists_setWidth]
  constructor
  · intro hx i hi
    by_cases hn : i < n
    · have hbit := congrArg (BitVec.getLsbD · (i - k)) hx
      simpa [show i - k < m by omega, show k + (i - k) = i by omega] using hbit
    · exact BitVec.getLsbD_of_ge x i (by omega)
  · intro hx
    refine BitVec.eq_of_getLsbD_eq fun i _ => ?_
    simp [hx (k + i) (by omega)]

/-- The table's form of the check: the bits from `k` up are masked and compared with 0. -/
theorem and_allOnes_shiftLeft_eq_zero_iff {n : Nat} (k : Nat) (x : BitVec n) :
    x &&& BitVec.allOnes n <<< k = 0#n ↔ ∃ v : BitVec k, x = v.setWidth n := by
  rw [← getLsbD_eq_false_iff_exists_setWidth]
  constructor
  · intro hx i hi
    by_cases hn : i < n
    · have hbit := congrArg (BitVec.getLsbD · i) hx
      simpa [hn, show ¬ i < k by omega, show i - k < n by omega] using hbit
    · exact BitVec.getLsbD_of_ge x i (by omega)
  · intro hx
    refine BitVec.eq_of_getLsbD_eq fun i _ => ?_
    by_cases hk : i < k
    · simp [hk]
    · simp [hx i (by omega)]

theorem ofBool_surjective : Function.Surjective BitVec.ofBool := by
  intro v
  revert v
  decide

/-! ## The formats (R81) -/

section Formats

variable {a : BitVec 8} {d : BitVec 32} {j : Instr}

theorem ite_ok_eq_ok_iff {c : Bool} {i : Instr} {e : IllegalWord} :
    (if c then .ok i else .error e : Except IllegalWord Instr) = .ok j ↔ c = true ∧ i = j := by
  cases c <;> simp

theorem formatN_eq_ok_iff {i : Instr} : formatN a d i = .ok j ↔ a = 0#8 ∧ d = 0#32 ∧ i = j := by
  rw [formatN, ite_ok_eq_ok_iff]
  simp [dZero, and_assoc]

theorem formatS_eq_ok_iff {f : BitVec 8 → Instr} : formatS a d f = .ok j ↔ d = 0#32 ∧ f a = j := by
  rw [formatS, ite_ok_eq_ok_iff]
  simp [dZero]

theorem formatSD_eq_ok_iff {f : BitVec 8 → BitVec 32 → Instr} : formatSD a d f = .ok j ↔ f a d = j := by
  simp [formatSD]

theorem formatB_eq_ok_iff {f : Bool → Instr} :
    formatB a d f = .ok j ↔ ∃ b, a = (BitVec.ofBool b).setWidth 8 ∧ d = 0#32 ∧ f b = j := by
  have hhigh : a.extractLsb' 1 7 = 0#7 ↔ ∃ b, a = (BitVec.ofBool b).setWidth 8 :=
    (extractLsb'_eq_zero_iff (k := 1) (m := 7) rfl a).trans ofBool_surjective.exists
  have hbit (b : Bool) : ((BitVec.ofBool b).setWidth 8).getLsbD 0 = b := by cases b <;> rfl
  rw [formatB, ite_ok_eq_ok_iff, dZero, Bool.and_eq_true, beq_iff_eq, beq_iff_eq, hhigh]
  constructor
  · rintro ⟨⟨⟨b, rfl⟩, rfl⟩, rfl⟩
    exact ⟨b, rfl, rfl, by rw [hbit]⟩
  · rintro ⟨b, rfl, rfl, rfl⟩
    exact ⟨⟨⟨b, rfl⟩, rfl⟩, by rw [hbit]⟩

theorem formatSW_eq_ok_iff {f : BitVec 8 → BitVec 3 → Instr} :
    formatSW a d f = .ok j ↔ ∃ v : BitVec 3, d = v.setWidth 32 ∧ f a v = j := by
  have hhigh := extractLsb'_eq_zero_iff (k := 3) (m := 29) rfl d
  have hlow (v : BitVec 3) : (v.setWidth 32).extractLsb' 0 3 = v := by simp [← BitVec.setWidth_eq_extractLsb']
  rw [formatSW, ite_ok_eq_ok_iff, beq_iff_eq, hhigh]
  constructor
  · rintro ⟨⟨v, rfl⟩, rfl⟩
    exact ⟨v, rfl, by rw [hlow]⟩
  · rintro ⟨v, rfl, rfl⟩
    exact ⟨⟨v, rfl⟩, by rw [hlow]⟩

end Formats

/-! ## Decoding and encoding (R82, R84, R86) -/

/-- The decoder answers a command exactly on the fields the encoder gives it: row by row one way, command by command
the other. -/
theorem decodeRow_eq_ok_iff {opc a : BitVec 8} {d : BitVec 32} {i : Instr} :
    decodeRow opc a d = .ok i ↔ i.opc = opc ∧ i.aField = a ∧ i.dField = d := by
  constructor
  · intro h
    unfold decodeRow at h
    split at h
    case h_1 _ ho | h_2 _ ho | h_5 _ ho | h_9 _ ho | h_10 _ ho | h_15 _ ho | h_19 _ ho =>
      obtain ⟨rfl, rfl, rfl⟩ := formatN_eq_ok_iff.1 h
      exact ⟨(BitVec.eq_of_toNat_eq ho).symm, rfl, rfl⟩
    case h_3 _ ho | h_6 _ ho | h_8 _ ho | h_11 _ ho | h_13 _ ho | h_16 _ ho | h_17 _ ho =>
      obtain ⟨rfl, rfl⟩ := formatS_eq_ok_iff.1 h
      exact ⟨(BitVec.eq_of_toNat_eq ho).symm, rfl, rfl⟩
    case h_4 _ ho | h_7 _ ho =>
      obtain rfl := formatSD_eq_ok_iff.1 h
      exact ⟨(BitVec.eq_of_toNat_eq ho).symm, rfl, rfl⟩
    case h_14 _ ho | h_18 _ ho =>
      obtain ⟨b, rfl, rfl, rfl⟩ := formatB_eq_ok_iff.1 h
      exact ⟨(BitVec.eq_of_toNat_eq ho).symm, rfl, rfl⟩
    case h_12 _ ho =>
      obtain ⟨v, rfl, rfl⟩ := formatSW_eq_ok_iff.1 h
      exact ⟨(BitVec.eq_of_toNat_eq ho).symm, rfl, rfl⟩
    case h_20 => cases h
  · rintro ⟨rfl, rfl, rfl⟩
    cases i with
    | nop | srst | clear | build | gen | pflush | dend => exact formatN_eq_ok_iff.2 ⟨rfl, rfl, rfl⟩
    | rdcsr | count | rdfreq | rdclen | enc | ubyte | ulast => exact formatS_eq_ok_iff.2 ⟨rfl, rfl⟩
    | wrcsr | wrfreq => exact formatSD_eq_ok_iff.2 rfl
    | pbit b | dbit b => exact formatB_eq_ok_iff.2 ⟨b, rfl, rfl, rfl⟩
    | rdcode _ v => exact formatSW_eq_ok_iff.2 ⟨v, rfl, rfl⟩

theorem CmdWord.ofFields_eq_iff {opc a : BitVec 8} {d : BitVec 32} {w : CmdWord} :
    CmdWord.ofFields opc a d = w ↔ opc = w.opc ∧ a = w.a ∧ d = w.d := by
  constructor
  · rintro rfl
    simp
  · rintro ⟨rfl, rfl, rfl⟩
    exact w.ofFields_fields

theorem decodeRow_eq_ok_iff_encode {w : CmdWord} {i : Instr} :
    decodeRow w.opc w.a w.d = .ok i ↔ encode i = w := by
  rw [decodeRow_eq_ok_iff, encode, CmdWord.ofFields_eq_iff]

theorem decode_eq_ok_iff {w : CmdWord} {i : Instr} : decode w = .ok i ↔ encode i = w ∧ i.wf = true := by
  rw [← decodeRow_eq_ok_iff_encode, Instr.wf, Option.isNone_iff_eq_none]
  exact ⟨decode_ok, fun ⟨hrow, hdef⟩ => by simp [decode, hrow, hdef]⟩

/-- Settles O2: one half of `decode_eq_ok_iff`. -/
theorem decodeOfEncode : Obligations.DecodeOfEncode :=
  fun _ hwf => decode_eq_ok_iff.2 ⟨rfl, hwf⟩

/-- Settles O3: the other half of `decode_eq_ok_iff`. -/
theorem encodeOfDecode : Obligations.EncodeOfDecode :=
  fun _ _ => decode_eq_ok_iff.1

theorem roundTrip_of_encode {i : Instr} {w : CmdWord} (hw : encode i = w) (hwf : i.wf = true) :
    encode i = w ∧ (decode w).toOption = some i := by
  rw [decode_eq_ok_iff.2 ⟨hw, hwf⟩]
  exact ⟨hw, rfl⟩

/-- Settles O1: the ten words are the encoder's and their commands are well formed, so they decode by the round trip;
each of the seven illegal words is run. -/
theorem workedEncodings : Obligations.WorkedEncodings := by
  refine ⟨fun p hp => roundTrip_of_encode ?_ ?_, ?_⟩
  · revert p
    decide
  · revert p
    decide
  · simp only [List.forall_mem_cons]
    exact ⟨rfl, rfl, rfl, rfl, rfl, rfl, rfl, List.forall_mem_nil _⟩

/-! ## The opcode table (R84) -/

/-- The bits of A that a command's format fixes at 0 (R81). -/
def Instr.aMask : Instr → BitVec 8
  | .nop | .srst | .clear | .build | .gen | .pflush | .dend => 0xFF#8
  | .pbit _ | .dbit _ => 0xFE#8
  | .rdcsr _ | .wrcsr _ _ | .count _ | .wrfreq _ _ | .rdfreq _ | .rdclen _ | .rdcode _ _ | .enc _ | .ubyte _
  | .ulast _ => 0x00#8

/-- The bits of D that a command's format fixes at 0 (R81). -/
def Instr.dMask : Instr → BitVec 32
  | .wrcsr _ _ | .wrfreq _ _ => 0x00000000#32
  | .rdcode _ _ => 0xFFFFFFF8#32
  | .nop | .srst | .rdcsr _ | .clear | .count _ | .rdfreq _ | .build | .gen | .rdclen _ | .enc _ | .pbit _ | .pflush
  | .ubyte _ | .ulast _ | .dbit _ | .dend => 0xFFFFFFFF#32

/-- A command's row of the table, by fields: OPC is fixed at the command's, the reserved bits at 0. -/
def Instr.row (i : Instr) : OpcodeRow :=
  ⟨i.mnemonic, CmdWord.ofFields i.opc 0#8 0#32, CmdWord.ofFields 0xFF#8 i.aMask i.dMask⟩

/-- One command per row of the table, in the table's order. -/
def rowCommands : List Instr :=
  [.nop, .srst, .rdcsr 0, .wrcsr 0 0, .clear, .count 0, .wrfreq 0 0, .rdfreq 0, .build, .gen, .rdclen 0, .rdcode 0 0,
    .enc 0, .pbit false, .pflush, .ubyte 0, .ulast 0, .dbit false, .dend]

theorem opcodeRows_eq_map_row : opcodeRows = rowCommands.map Instr.row := rfl

theorem CmdWord.and_ofFields_eq_iff {w : CmdWord} {o a o' a' : BitVec 8} {d d' : BitVec 32} :
    w &&& CmdWord.ofFields o a d = CmdWord.ofFields o' a' d' ↔
      w.opc &&& o = o' ∧ w.a &&& a = a' ∧ w.d &&& d = d' := by
  conv_lhs => rw [← w.ofFields_fields, CmdWord.ofFields_and]
  simp [CmdWord.ofFields_eq_iff]

theorem and_row_mask_eq_iff {w : CmdWord} {i : Instr} :
    w &&& i.row.mask = i.row.pattern ↔ w.opc = i.opc ∧ w.a &&& i.aMask = 0#8 ∧ w.d &&& i.dMask = 0#32 := by
  rw [Instr.row, CmdWord.and_ofFields_eq_iff, show w.opc &&& 0xFF#8 = w.opc from BitVec.and_allOnes]

/-- Settles O5: every row fixes OPC, and no two rows fix it at the same value. -/
theorem tableRowsExclusive : Obligations.TableRowsExclusive := by
  intro w r₁ r₂ hr₁ hr₂ h₁ h₂
  rw [opcodeRows_eq_map_row] at hr₁ hr₂
  obtain ⟨i₁, hi₁, rfl⟩ := List.mem_map.1 hr₁
  obtain ⟨i₂, hi₂, rfl⟩ := List.mem_map.1 hr₂
  have hopc : i₁.opc = i₂.opc := (and_row_mask_eq_iff.1 h₁).1.symm.trans (and_row_mask_eq_iff.1 h₂).1
  have hnodup : (rowCommands.map Instr.opc).Nodup := by decide
  rw [List.inj_on_of_nodup_map hnodup hi₁ hi₂ hopc]

/-- A word that spells a row is the word of some command: its format's reserved bits are what the mask sees. -/
theorem exists_encode_eq_of_row {w : CmdWord} {i : Instr} (h : w &&& i.row.mask = i.row.pattern) :
    ∃ j, encode j = w := by
  obtain ⟨hopc, ha, hd⟩ := and_row_mask_eq_iff.1 h
  simp only [← decodeRow_eq_ok_iff_encode, hopc]
  cases i with
  | nop | srst | clear | build | gen | pflush | dend =>
    exact ⟨_, formatN_eq_ok_iff.2 ⟨BitVec.and_allOnes.symm.trans ha, BitVec.and_allOnes.symm.trans hd, rfl⟩⟩
  | rdcsr | count | rdfreq | rdclen | enc | ubyte | ulast =>
    exact ⟨_, formatS_eq_ok_iff.2 ⟨BitVec.and_allOnes.symm.trans hd, rfl⟩⟩
  | wrcsr | wrfreq => exact ⟨_, formatSD_eq_ok_iff.2 rfl⟩
  | pbit | dbit =>
    obtain ⟨b, hb⟩ := ofBool_surjective.exists.1 ((and_allOnes_shiftLeft_eq_zero_iff 1 w.a).1 ha)
    exact ⟨_, formatB_eq_ok_iff.2 ⟨b, hb, BitVec.and_allOnes.symm.trans hd, rfl⟩⟩
  | rdcode =>
    obtain ⟨v, hv⟩ := (and_allOnes_shiftLeft_eq_zero_iff 3 w.d).1 hd
    exact ⟨_, formatSW_eq_ok_iff.2 ⟨v, hv, rfl⟩⟩

open Laws.SpellsRow in
/-- The family SpellsRow, for every command at once. -/
theorem spellsRow (i : Instr) : Statement i := by
  cases i
  exacts [nop, srst, rdcsr _, wrcsr _ _, clear, count _, wrfreq _ _, rdfreq _, build, gen, rdclen _, rdcode _ _, enc _,
    pbit _, pflush, ubyte _, ulast _, dbit _, dend]

theorem exists_row_iff_exists_encode {w : CmdWord} :
    (∃ r ∈ opcodeRows, w &&& r.mask = r.pattern) ↔ ∃ i, encode i = w := by
  constructor
  · rintro ⟨r, hr, h⟩
    rw [opcodeRows_eq_map_row] at hr
    obtain ⟨i, -, rfl⟩ := List.mem_map.1 hr
    exact exists_encode_eq_of_row h
  · rintro ⟨i, rfl⟩
    obtain ⟨r, hr, -, hspells⟩ := spellsRow i
    exact ⟨r, hr, beq_iff_eq.1 hspells⟩

/-! ## The operand checks (R86) -/

/-- The ranges of R86, said of the word's fields as the table's reader sees them. -/
theorem wf_iff_operandRanges {i : Instr} {w : CmdWord} (hw : encode i = w) :
    i.wf = true ↔
      (w.opc = 0x02#8 → w.a.toNat ≤ 0x09) ∧
      (w.opc = 0x03#8 → (w.a = 0x00#8 ∧ w.d.toNat ≤ 0x3) ∨ (w.a = 0x08#8 ∧ w.d.toNat ≤ 0x7)) ∧
      (w.opc = 0x12#8 → w.d.toNat < 2 ^ Config.cntw) := by
  obtain ⟨hopc, ha, hd⟩ := CmdWord.ofFields_eq_iff.1 hw
  rw [← hopc, ← ha, ← hd]
  cases i with
  | rdcsr => simp [Instr.wf, Instr.operandDefect, Instr.opc, Instr.aField, BitVec.lt_def]
  | wrcsr csr data =>
    simp only [Instr.wf, Instr.operandDefect, Instr.opc, Instr.aField, Instr.dField]
    by_cases h0 : csr = 0x00#8
    · simp [h0, BitVec.lt_def]
    by_cases h8 : csr = 0x08#8
    · simp [h8, BitVec.lt_def]
    by_cases h9 : 0x09#8 < csr <;> simp [h0, h8, h9]
  | wrfreq => simp [Instr.wf, Instr.operandDefect, Instr.opc, Instr.dField, countFits]
  | nop | srst | clear | count | rdfreq | build | gen | rdclen | rdcode | enc | pbit | pflush | ubyte | ulast | dbit
  | dend => simp [Instr.wf, Instr.operandDefect, Instr.opc]

/-- Settles O4: a word spells a row exactly when it is some command's word, and the ranges say that this command is
well formed. -/
theorem legalWordsMatchTable : Obligations.LegalWordsMatchTable := by
  intro w
  rw [exists_row_iff_exists_encode]
  constructor
  · rintro ⟨i, hi⟩
    obtain ⟨hw, hwf⟩ := decode_eq_ok_iff.1 hi
    exact ⟨⟨i, hw⟩, (wf_iff_operandRanges hw).1 hwf⟩
  · rintro ⟨⟨i, hw⟩, hranges⟩
    exact ⟨i, decode_eq_ok_iff.2 ⟨hw, (wf_iff_operandRanges hw).2 hranges⟩⟩

end Sys2Proof

/-! PROOFS, 30_encoding, illegal words (R91). -/

namespace Sys2Proof.Machine

theorem illegalWord_of_not_halted {s : State} (h0 : s.errCause = 0#4) (w : CmdWord) :
    s.illegalWord w = s.faultEntry .illegalCommand w.opc w.a := by
  simp [State.illegalWord, h0]

/-- Settles O8: fault entry with cause 6, from the word's A and OPC. -/
theorem illegalWordFaults : Obligations.IllegalWordFaults := by
  intro s w rest hin hw h0
  rw [step_of_illegal hin hw, illegalWord_of_not_halted (s := { s with input := rest }) h0]
  rfl

end Sys2Proof.Machine

/-! PROOFS, 40_frequency_counter (R102 to R108): what CLEAR, COUNT, WRFREQ and RDFREQ leave in a CORE that is not
halted, and that a run of COUNTs which ends without fault has tallied every symbol. -/

namespace Sys2Proof.Machine

/-! ## The four commands (R102, R103, R106, R107) -/

/-- A command whose pseudocode runs to its end, in a CORE that is not halted (60_exceptions R245). -/
theorem exec_of_cmdBody_done {i : Instr} {s s' : State} {v : BitVec 32} (h0 : s.errCause = 0#4)
    (hb : cmdBody i s = .done s' v) : exec i s = .next (s'.respond statOk v) := by
  rw [exec_eq]
  split
  · rw [runAlways, hb, CmdResult.conclude]
  · exact runCommand_of_done i h0 hb

/-- Settles O25: the completed command, whose table holds 0 at every index. -/
theorem clearEmptiesTable : Obligations.ClearEmptiesTable := by
  intro s h0
  exact ⟨_, exec_of_cmdBody_done h0 rfl, fun sym => Vector.getElem_replicate _, rfl⟩

theorem readFreq_lt_of_ne {s : State} {sym : Symbol} (h : (s.readFreq sym).toNat ≠ 2 ^ 32 - 1) :
    (s.readFreq sym).toNat < 2 ^ 32 - 1 := by
  have := (s.readFreq sym).isLt
  omega

/-- COUNT at the counter's maximum (R103). -/
theorem exec_count_of_full {s : State} {sym : Symbol} (h0 : s.errCause = 0#4)
    (hfull : (s.readFreq sym).toNat = 2 ^ 32 - 1) :
    exec (.count sym) s = .next (s.faultEntry .countOverflow 0x11#8 sym) := by
  have hmax : s.readFreq sym = Config.countMax := BitVec.eq_of_toNat_eq hfull
  exact runCommand_of_raise (.count sym) h0 (by simp [countBody, hmax])

/-- Settles O26: below the maximum the one entry written is the symbol's; at it, fault entry from the old state. -/
theorem countTalliesOrOverflows : Obligations.CountTalliesOrOverflows := by
  intro s sym h0
  refine ⟨fun hne => ?_, fun hfull => exec_count_of_full h0 hfull⟩
  have hlt := readFreq_lt_of_ne hne
  refine ⟨_, exec_count_of_lt h0 hlt, ?_, fun sym' hs => State.readFreq_writeFreq_other s _ hs.symm, rfl⟩
  exact (readFreq_count hlt sym).trans (by rw [if_pos rfl])

/-- Every count fits a counter of 32 bits, so no WRFREQ is illegal (30_encoding R86, log entry 6). -/
theorem countFits_cntw (cnt : Count) : countFits Config.cntw cnt = true :=
  decide_eq_true cnt.isLt

/-- Settles O27: no count is illegal, and the one entry written is the symbol's. -/
theorem wrfreqLoadsEntry : Obligations.WrfreqLoadsEntry := by
  intro s sym cnt h0
  exact ⟨_, exec_of_cmdBody_done h0 (if_pos (countFits_cntw cnt)),
    State.readFreq_writeFreq_self s sym cnt, fun sym' hs => State.readFreq_writeFreq_other s cnt hs.symm, rfl⟩

/-- Settles O28: the completed command answers the entry from the state it leaves as it was. -/
theorem rdfreqAnswersCount : Obligations.RdfreqAnswersCount := by
  intro s sym h0
  exact exec_of_cmdBody_done h0 rfl

/-! ## Runs of COUNTs (R108) -/

theorem countAll_errCause_of_halted {S : List Symbol} {s t : State} (hhalt : s.errCause ≠ 0#4)
    (h : countAll S s = some t) : t.errCause = s.errCause := by
  induction S generalizing s with
  | nil => cases h; rfl
  | cons a S ih =>
    have hexec : exec (.count a) s = .next s.refuseHalted := runCommand_of_halted (.count a) _ hhalt
    rw [countAll, hexec] at h
    exact ih (s := s.refuseHalted) hhalt h

/-- The converse of `countAll_tally`: a run that ends without fault has overfilled no counter, because a COUNT on a full
one halts the CORE for the rest of the run. -/
theorem readFreq_of_countAll {S : List Symbol} {s t : State} (h0 : s.errCause = 0#4) (h : countAll S s = some t)
    (hok : t.errCause = 0#4) (sym : Symbol) :
    (t.readFreq sym).toNat = (s.readFreq sym).toNat + S.count sym := by
  induction S generalizing s with
  | nil => cases h; rfl
  | cons a S ih =>
    by_cases hfull : (s.readFreq a).toNat = 2 ^ 32 - 1
    · rw [countAll, exec_count_of_full h0 hfull] at h
      have hhalt := Cause.countOverflow.code_ne_zero
      exact absurd ((countAll_errCause_of_halted hhalt h).symm.trans hok) hhalt
    · have hlt := readFreq_lt_of_ne hfull
      rw [countAll, exec_count_of_lt h0 hlt] at h
      calc (t.readFreq sym).toNat
        _ = ((s.writeFreq a (s.readFreq a + 1#32)).readFreq sym).toNat + S.count sym :=
          ih (s := (s.writeFreq a (s.readFreq a + 1#32)).invalidate.respond statOk 0#32) h0 h
        _ = (s.readFreq sym).toNat + (a :: S).count sym := by
          rw [readFreq_count hlt, List.count_cons]
          simp only [beq_iff_eq]
          omega

theorem freq_eq_of_readFreq {s t : State} (h : ∀ sym, (s.readFreq sym).toNat = (t.readFreq sym).toNat) :
    s.freq = t.freq :=
  Vector.ext fun i hi => BitVec.eq_of_toNat_eq (h (BitVec.ofFin ⟨i, hi⟩))

/-- Settles O30: both runs add to every symbol's count its number of occurrences, which a permutation keeps. -/
theorem countOrderIndependent : Obligations.CountOrderIndependent := by
  intro S S' s t t' h0 hperm ht ht' hok hok'
  refine freq_eq_of_readFreq fun sym => ?_
  rw [readFreq_of_countAll h0 ht hok, readFreq_of_countAll h0 ht' hok', hperm.count_eq]

end Sys2Proof.Machine

/-! PROOFS, 41_tree_builder, the merges (R121 to R125): ExtractMin answers the least node under R123's order, the
records a merge sees are in the finished tree what they were, and the old arena is never seen. -/

namespace Sys2Proof.Machine

/-! ## ExtractMin (R123) -/

/-- R123's order as one linear order: weight first, then index. -/
def priority (nodes : Vector Node 511) (i : NodeIdx) : ℕ ×ₗ NodeIdx :=
  toLex ((nodes[i]).weight.toNat, i)

theorem precedes_iff_priority_lt {nodes : Vector Node 511} {i j : NodeIdx} :
    Precedes nodes i j ↔ priority nodes i < priority nodes j := by
  rw [priority, priority, Prod.Lex.toLex_lt_toLex, Precedes]

theorem before_eq_true_iff {nodes : Vector Node 511} {i j : NodeIdx} :
    before nodes i j = true ↔ priority nodes i < priority nodes j := by
  rw [← precedes_iff_priority_lt, before, Precedes]
  simp [BitVec.lt_def, BitVec.toNat_eq]

theorem priority_least_le (nodes : Vector Node 511) (i : NodeIdx) (rest : List NodeIdx) {j : NodeIdx}
    (hj : j ∈ i :: rest) : priority nodes (least nodes i rest) ≤ priority nodes j := by
  induction rest generalizing i j with
  | nil =>
    obtain rfl := List.mem_singleton.1 hj
    exact le_rfl
  | cons a rest ih =>
    rw [least]
    split
    · next hb =>
      have hlt := before_eq_true_iff.1 hb
      rcases List.mem_cons.1 hj with rfl | hj
      · exact (ih a List.mem_cons_self).trans hlt.le
      · exact ih a hj
    · next hb =>
      have hle := not_lt.1 (mt before_eq_true_iff.2 hb)
      rcases List.mem_cons.1 hj with rfl | hj
      · exact ih j List.mem_cons_self
      · rcases List.mem_cons.1 hj with rfl | hj
        · exact (ih i List.mem_cons_self).trans hle
        · exact ih i (List.mem_cons_of_mem i hj)

/-- `x` is the element of the collection that ExtractMin answers (R123). -/
structure IsFirst (nodes : Vector Node 511) (live : List NodeIdx) (x : NodeIdx) : Prop where
  mem : x ∈ live
  precedes : ∀ j ∈ live, j ≠ x → Precedes nodes x j

theorem isFirst_least (nodes : Vector Node 511) (i : NodeIdx) (rest : List NodeIdx) :
    IsFirst nodes (i :: rest) (least nodes i rest) where
  mem := least_mem nodes i rest
  precedes j hj hne := by
    refine precedes_iff_priority_lt.2 (lt_of_le_of_ne (priority_least_le nodes i rest hj) fun he => hne ?_)
    exact congrArg (fun p => (ofLex p).2) he.symm

theorem IsFirst.weight_le {nodes : Vector Node 511} {live : List NodeIdx} {x j : NodeIdx}
    (h : IsFirst nodes live x) (hj : j ∈ live) : (nodes[x]).weight.toNat ≤ (nodes[j]).weight.toNat := by
  by_cases hne : j = x
  · rw [hne]
  · rcases h.precedes j hj hne with hlt | ⟨heq, -⟩
    · exact hlt.le
    · exact heq.le

theorem exists_extractMin {nodes : Vector Node 511} {live : List NodeIdx} (h : live ≠ []) :
    ∃ x, extractMin nodes live = some (x, live.erase x) ∧ IsFirst nodes live x := by
  cases live with
  | nil => exact absurd rfl h
  | cons i rest => exact ⟨_, rfl, isFirst_least nodes i rest⟩

/-- One merge: the first of the collection and the first of the rest go out, the node that joins them comes in. -/
theorem exists_isFirst_mergeLoop_succ (m k : Nat) (nodes : Vector Node 511) {live : List NodeIdx}
    (h : 2 ≤ live.length) :
    ∃ x y, IsFirst nodes live x ∧ IsFirst nodes (live.erase x) y ∧
      mergeLoop (m + 1) k nodes live =
        mergeLoop m (k + 1) (nodes.set (internalIdx k) (mergedNode nodes x y))
          (internalIdx k :: (live.erase x).erase y) := by
  obtain ⟨x, hex, hx⟩ := exists_extractMin (nodes := nodes) (List.ne_nil_of_length_pos (by omega : 0 < live.length))
  have hne : live.erase x ≠ [] :=
    List.ne_nil_of_length_pos (by rw [List.length_erase_of_mem hx.mem]; omega)
  obtain ⟨y, hey, hy⟩ := exists_extractMin (nodes := nodes) hne
  exact ⟨x, y, hx, hy, by simp only [mergeLoop, hex, hey]⟩

theorem length_merged {live : List NodeIdx} {m : Nat} {x y z : NodeIdx} (hx : x ∈ live) (hy : y ∈ live.erase x)
    (h : live.length = m + 1 + 1) : (z :: (live.erase x).erase y).length = m + 1 := by
  rw [List.length_cons, List.length_erase_of_mem hy, List.length_erase_of_mem hx]
  omega

/-! ## Records that a merge sees (R121) -/

/-- Two arenas hold the same leaf records and the same first `k` internal records. -/
def AgreeBelow (k : Nat) (nodes nodes' : Vector Node 511) : Prop :=
  ∀ i : NodeIdx, i.val < 256 + k → nodes[i] = nodes'[i]

section Agree

variable {freq : Vector Count 256} {k m : Nat} {nodes nodes' : Vector Node 511} {live : List NodeIdx}

theorem agreeBelow_mergeLoop (hk : k + m ≤ 255) : AgreeBelow k (mergeLoop m k nodes live) nodes :=
  fun i hi => mergeLoop_below m k nodes live hk i hi

theorem AgreeBelow.liveBefore_iff (h : AgreeBelow k nodes nodes') (i : NodeIdx) :
    LiveBefore freq nodes k i ↔ LiveBefore freq nodes' k i := by
  refine and_congr_right fun _ => forall_congr' fun p => forall_congr' fun _ => forall_congr' fun hp => ?_
  rw [h p hp]

theorem AgreeBelow.precedes_iff (h : AgreeBelow k nodes nodes') {i j : NodeIdx} (hi : i.val < 256 + k)
    (hj : j.val < 256 + k) : Precedes nodes i j ↔ Precedes nodes' i j := by
  rw [Precedes, Precedes, h i hi, h j hj]

end Agree

/-! ## The `k`-th merge in the finished tree (R123, R124, R129) -/

/-- The record that a merge writes is in the finished arena. -/
theorem getElem_mergeLoop_set {k m : Nat} (hk : k + 1 + m ≤ 255) (nodes : Vector Node 511) (n : Node)
    (live : List NodeIdx) :
    (mergeLoop m (k + 1) (nodes.set (internalIdx k) n) live)[internalIdx k] = n := by
  have hv := internalIdx_val (show k ≤ 254 by omega)
  rw [agreeBelow_mergeLoop hk _ (by omega), getElem_set_internalIdx_self]

/-- Internal node `k` joins the two first of the nodes live before it, the first on the left. -/
structure JoinsTwoFirst (freq : Vector Count 256) (nodes : Vector Node 511) (k : Nat) (n : Node) : Prop where
  left : LiveBefore freq nodes k n.left
  right : LiveBefore freq nodes k n.right
  ne : n.left ≠ n.right
  left_first : ∀ j, LiveBefore freq nodes k j → j ≠ n.left → Precedes nodes n.left j
  right_second : ∀ j, LiveBefore freq nodes k j → j ≠ n.left → j ≠ n.right → Precedes nodes n.right j
  weight : n.weight.toNat = (nodes[n.left]).weight.toNat + (nodes[n.right]).weight.toNat

section Joins

variable {freq : Vector Count 256} {k : Nat} {nodes nodes' : Vector Node 511} {live : List NodeIdx} {x y : NodeIdx}

theorem MergeInv.joinsTwoFirst (h : MergeInv freq k nodes live) (hx : IsFirst nodes live x)
    (hy : IsFirst nodes (live.erase x) y) : JoinsTwoFirst freq nodes k (mergedNode nodes x y) := by
  obtain ⟨hyx, hylive⟩ := h.nodup.mem_erase_iff.1 hy.mem
  exact {
    left := (h.mem_live x).1 hx.mem
    right := (h.mem_live y).1 hylive
    ne := hyx.symm
    left_first := fun j hj hne => hx.precedes j ((h.mem_live j).2 hj) hne
    right_second := fun j hj hne hne' =>
      hy.precedes j (h.nodup.mem_erase_iff.2 ⟨hne, (h.mem_live j).2 hj⟩) hne'
    weight := h.merged_weight hx.mem hy.mem }

theorem LiveBefore.lt {i : NodeIdx} (h : LiveBefore freq nodes k i) : i.val < 256 + k :=
  Made.lt (liveBefore_iff.1 h).1

theorem JoinsTwoFirst.of_agreeBelow {n : Node} (h : JoinsTwoFirst freq nodes' k n)
    (ha : AgreeBelow k nodes nodes') : JoinsTwoFirst freq nodes k n where
  left := (ha.liveBefore_iff _).2 h.left
  right := (ha.liveBefore_iff _).2 h.right
  ne := h.ne
  left_first j hj hne := by
    rw [ha.precedes_iff h.left.lt hj.lt]
    exact h.left_first j ((ha.liveBefore_iff j).1 hj) hne
  right_second j hj hne hne' := by
    rw [ha.precedes_iff h.right.lt hj.lt]
    exact h.right_second j ((ha.liveBefore_iff j).1 hj) hne hne'
  weight := by rw [ha _ h.left.lt, ha _ h.right.lt, h.weight]

/-- Every merge of the loop joins the two first nodes, and the finished arena still shows it. -/
theorem MergeInv.mergeLoop_joinsTwoFirst (m : Nat) (h : MergeInv freq k nodes live) (hk : k + m ≤ 255)
    (hlen : live.length = m + 1) {j : Nat} (hkj : k ≤ j) (hjm : j < k + m) :
    JoinsTwoFirst freq (mergeLoop m k nodes live) j (mergeLoop m k nodes live)[internalIdx j] := by
  induction m generalizing k nodes live with
  | zero => omega
  | succ m ih =>
    obtain ⟨x, y, hx, hy, hloop⟩ := exists_isFirst_mergeLoop_succ m k nodes (show 2 ≤ live.length by omega)
    rcases Nat.eq_or_lt_of_le hkj with rfl | hlt
    · have hlast : (mergeLoop (m + 1) k nodes live)[internalIdx k] = mergedNode nodes x y := by
        rw [hloop, getElem_mergeLoop_set (by omega)]
      rw [hlast]
      exact (h.joinsTwoFirst hx hy).of_agreeBelow (agreeBelow_mergeLoop hk)
    · rw [hloop]
      exact ih (h.merge (by omega) hx.mem hy.mem) (by omega) (length_merged hx.mem hy.mem hlen) hlt (by omega)

end Joins

theorem buildTree_joinsTwoFirst (freq : Vector Count 256) (old : Vector Node 511) {k : Nat}
    (h : k + 2 ≤ (seedLive freq).length) :
    JoinsTwoFirst freq (buildTree freq old).nodes k (buildTree freq old).nodes[internalIdx k] := by
  have hle := seedLive_length_le freq
  exact (mergeInv_seed freq old).mergeLoop_joinsTwoFirst _ (by omega) (by omega) k.zero_le (by omega)

/-- Settles O33: the loop's invariant says what is live before the `k`-th merge, ExtractMin answers the two first, and
no later merge rewrites a record that this one saw. -/
theorem buildMergesTwoLeast : Obligations.BuildMergesTwoLeast := by
  intro s t k p h0 hb hk hp
  obtain rfl := exec_build h0 hb
  have hk' : k + 2 ≤ (seedLive s.freq).length := buildTree_nleaves_val s.freq s.nodes ▸ hk
  have hle := seedLive_length_le s.freq
  obtain rfl : p = internalIdx k := Fin.ext (by rw [hp, internalIdx_val (by omega)])
  obtain ⟨hleft, hright, hne, hfirst, hsecond, hweight⟩ := buildTree_joinsTwoFirst s.freq s.nodes hk'
  exact ⟨hleft, hright, hne, hfirst, hsecond, hweight⟩

end Sys2Proof.Machine

/-! PROOFS, 41_tree_builder, BUILD's results (R121, R122, R125 to R127): the leaf records, the root by the number of
present symbols, the nodes that paths from the root reach, and that two BUILDs on equal tables agree. -/

namespace Sys2Proof.Machine

/-- Settles O31: the completed command writes the tree, the cursor and the two flags. -/
theorem buildCompletes : Obligations.BuildCompletes :=
  fun _ h0 => ⟨_, exec_of_cmdBody_done h0 rfl, rfl⟩

/-! ## The records that BUILD writes and keeps (R121, R122, R125) -/

theorem presentCount_eq_length (freq : Vector Count 256) : presentCount freq = (seedLive freq).length := by
  rw [seedLive_eq, List.length_map, presentCount, List.countP_eq_length_filter]

/-- Merges that create internal nodes below `k + m` leave every record from there on alone. -/
theorem mergeLoop_above (m k : Nat) (nodes : Vector Node 511) (live : List NodeIdx) (hk : k + m ≤ 255)
    {i : NodeIdx} (hi : 256 + (k + m) ≤ i.val) : (mergeLoop m k nodes live)[i] = nodes[i] := by
  induction m generalizing k nodes live with
  | zero => rfl
  | succ m ih =>
    by_cases hlen : 2 ≤ live.length
    · obtain ⟨x, y, -, -, hloop⟩ := mergeLoop_succ m k nodes hlen
      have hv := internalIdx_val (show k ≤ 254 by omega)
      rw [hloop, ih _ _ _ (by omega) (by omega)]
      exact Vector.getElem_set_ne _ _ (by omega)
    · match live with
      | [] | [_] => simp [mergeLoop, extractMin, least]
      | _ :: _ :: _ => simp at hlen

section Records

variable {freq : Vector Count 256} {old : Vector Node 511} {i : NodeIdx}

theorem seedNodes_leaf (hi : i.val < 256) : (seedNodes freq old)[i] = ⟨(freq[i.val]).setWidth 40, 0, 0⟩ := by
  simp [seedNodes, hi]

theorem seedNodes_internal (hi : 256 ≤ i.val) : (seedNodes freq old)[i] = old[i] := by
  simp [seedNodes, show ¬ i.val < 256 by omega]

theorem buildTree_leaf (freq : Vector Count 256) (old : Vector Node 511) (sym : Fin 256) :
    ((buildTree freq old).nodes[leafIdx sym]).weight.toNat = (freq[sym]).toNat ∧
      ((buildTree freq old).nodes[leafIdx sym]).left = 0 ∧ ((buildTree freq old).nodes[leafIdx sym]).right = 0 := by
  have hle := seedLive_length_le freq
  have hlt := leafIdx_val_lt sym
  have hnode : (buildTree freq old).nodes[leafIdx sym] = (seedNodes freq old)[leafIdx sym] :=
    mergeLoop_below _ 0 _ _ (by omega) _ hlt
  rw [hnode, seedNodes_leaf_weight, seedNodes_leaf hlt]
  exact ⟨rfl, rfl, rfl⟩

theorem buildTree_unwritten (hi : 256 + ((seedLive freq).length - 1) ≤ i.val) :
    (buildTree freq old).nodes[i] = old[i] := by
  have hle := seedLive_length_le freq
  exact (mergeLoop_above _ 0 _ _ (by omega) (by omega)).trans (seedNodes_internal (by omega))

theorem buildTree_nleaves (freq : Vector Count 256) (old : Vector Node 511) :
    (buildTree freq old).nleaves = Fin.ofNat 257 (seedLive freq).length := rfl

theorem buildTree_root (freq : Vector Count 256) (old : Vector Node 511) :
    (buildTree freq old).root = rootOf (seedLive freq) := rfl

theorem buildTree_root_of_none (h : (seedLive freq).length = 0) : (buildTree freq old).root = 0 := by
  rw [buildTree_root, List.length_eq_zero_iff.1 h]
  rfl

theorem buildTree_root_of_one (h : (seedLive freq).length = 1) :
    ∃ sym : Symbol, Present freq sym ∧ (buildTree freq old).root.val = sym.toNat := by
  obtain ⟨i, hi⟩ := List.length_eq_one_iff.1 h
  obtain ⟨sym, hval, hsym⟩ := mem_seedLive_iff_present.1 (show i ∈ seedLive freq by simp [hi])
  exact ⟨sym, hsym, by rw [buildTree_root, hi]; exact hval⟩

end Records

/-- Settles O32: the merges write the internal records from 256 to ROOT only, and ROOT depends on how many leaves were
seeded. -/
theorem buildOutcomes : Obligations.BuildOutcomes := by
  intro s t h0 hb
  obtain rfl := exec_build h0 hb
  rw [presentCount_eq_length]
  refine ⟨rfl, rfl, rfl, buildTree_nleaves_val s.freq s.nodes, ?leaves,
    buildTree_root_of_none (old := s.nodes), buildTree_root_of_one (old := s.nodes), fun h2 => ?two, ?kept⟩
  case leaves =>
    intro sym i hi
    obtain rfl : i = leafIdx sym.toFin := Fin.ext hi
    exact buildTree_leaf s.freq s.nodes sym.toFin
  case two =>
    have := buildTree_root_val (old := s.nodes) h2
    show (buildTree s.freq s.nodes).root.val = _
    omega
  case kept =>
    intro i hi hroot
    refine buildTree_unwritten ?_
    by_cases h2 : 2 ≤ (seedLive s.freq).length
    · have := mt (le_buildTree_root (old := s.nodes) h2).2 (not_le.2 hroot)
      omega
    · omega

/-! ## The nodes that a path from the root reaches (R126) -/

section Reach

variable {freq : Vector Count 256} {old : Vector Node 511}

theorem inTree_of_reaches {i j : NodeIdx} {bits : List Bool} (h : 1 ≤ (seedLive freq).length)
    (hi : InTree freq (buildTree freq old) i) (hr : Reaches (buildTree freq old).nodes i bits j) :
    InTree freq (buildTree freq old) j := by
  induction bits generalizing i with
  | nil => exact reaches_nil.1 hr ▸ hi
  | cons b bits ih =>
    obtain ⟨hint, hr⟩ := reaches_cons.1 hr
    obtain ⟨-, hl, hr'⟩ := (buildTree_mergeInv h).children i hint (inTree_buildTree.1 hi).lt
    refine ih ?_ hr
    cases b with
    | false => exact inTree_buildTree.2 hl
    | true => exact inTree_buildTree.2 hr'

theorem inTree_root (h : 1 ≤ (seedLive freq).length) :
    InTree freq (buildTree freq old) (buildTree freq old).root :=
  inTree_buildTree.2 (liveBefore_iff.1 (buildTree_root_live h)).1

theorem inTree_leaf_iff {t : BuiltTree} {i : NodeIdx} {sym : Symbol} (hi : i.val = sym.toNat) :
    InTree freq t i ↔ Present freq sym := by
  have hlt := sym.isLt
  constructor
  · rintro (⟨sym', hi', hsym'⟩ | ⟨-, hint, -⟩)
    · rwa [BitVec.eq_of_toNat_eq (hi.symm.trans hi')]
    · omega
  · exact fun hsym => .inl ⟨sym, hi, hsym⟩

end Reach

/-- Settles O35: the paths from the root reach the nodes of the tree and no others, and the leaves among these are the
present symbols'. -/
theorem reachableLeavesArePresent : Obligations.ReachableLeavesArePresent := by
  intro s t h0 hb hn sym i hi
  obtain rfl := exec_build h0 hb
  have h1 : 1 ≤ (seedLive s.freq).length := buildTree_nleaves_val s.freq s.nodes ▸ hn
  rw [← inTree_leaf_iff (t := buildTree s.freq s.nodes) hi]
  exact ⟨fun ⟨_, hpath⟩ => inTree_of_reaches h1 (inTree_root h1) hpath, exists_reaches_buildTree h1⟩

/-! ## Equal tables give equal trees (R127) -/

section Agree

variable {freq : Vector Count 256} {k : Nat} {nodes nodes' : Vector Node 511} {live : List NodeIdx}

theorem IsFirst.congr {x : NodeIdx} (hx : IsFirst nodes live x) (h : AgreeBelow k nodes nodes')
    (hlive : ∀ i ∈ live, i.val < 256 + k) : IsFirst nodes' live x where
  mem := hx.mem
  precedes j hj hne := (h.precedes_iff (hlive x hx.mem) (hlive j hj)).1 (hx.precedes j hj hne)

theorem IsFirst.unique {x x' : NodeIdx} (h : IsFirst nodes live x) (h' : IsFirst nodes live x') : x = x' := by
  by_contra hne
  have hlt := precedes_iff_priority_lt.1 (h.precedes x' h'.mem (Ne.symm hne))
  exact lt_asymm hlt (precedes_iff_priority_lt.1 (h'.precedes x h.mem hne))

theorem AgreeBelow.set_internalIdx (h : AgreeBelow k nodes nodes') (hk : k ≤ 254) (n : Node) :
    AgreeBelow (k + 1) (nodes.set (internalIdx k) n) (nodes'.set (internalIdx k) n) := by
  intro i hi
  rcases internal_succ_cases hk hi with hi | rfl
  · rw [getElem_set_internalIdx_of_lt hk n hi, getElem_set_internalIdx_of_lt hk n hi, h i hi]
  · rw [getElem_set_internalIdx_self, getElem_set_internalIdx_self]

/-- Merges of one collection in two arenas that agree on its records write the same records. -/
theorem AgreeBelow.mergeLoop (m : Nat) (h : AgreeBelow k nodes nodes') (hk : k + m ≤ 255)
    (hlen : m ≤ live.length - 1) (hlive : ∀ i ∈ live, i.val < 256 + k) :
    AgreeBelow (k + m) (mergeLoop m k nodes live) (mergeLoop m k nodes' live) := by
  induction m generalizing k nodes nodes' live with
  | zero => exact h
  | succ m ih =>
    have h2 : 2 ≤ live.length := by omega
    obtain ⟨x, y, hx, hy, hloop⟩ := exists_isFirst_mergeLoop_succ m k nodes h2
    obtain ⟨x', y', hx', hy', hloop'⟩ := exists_isFirst_mergeLoop_succ m k nodes' h2
    have hrest : ∀ i ∈ live.erase x, i.val < 256 + k := fun i hi => hlive i (List.mem_of_mem_erase hi)
    obtain rfl := (hx.congr h hlive).unique hx'
    obtain rfl := (hy.congr h hrest).unique hy'
    have hnode : mergedNode nodes' x y = mergedNode nodes x y := by
      rw [mergedNode, mergedNode, h x (hlive x hx.mem), h y (hrest y hy.mem)]
    rw [hloop, hloop', hnode, show k + (m + 1) = k + 1 + m by omega]
    refine ih (h.set_internalIdx (by omega) _) (by omega) ?_ fun i hi => ?_
    · rw [List.length_cons, List.length_erase_of_mem hy.mem, List.length_erase_of_mem hx.mem]
      omega
    · rcases List.mem_cons.1 hi with rfl | hi
      · rw [internalIdx_val (by omega)]
        omega
      · have := hrest i (List.mem_of_mem_erase hi)
        omega

end Agree

theorem agreeBelow_buildTree (freq : Vector Count 256) (old old' : Vector Node 511) :
    AgreeBelow ((seedLive freq).length - 1) (buildTree freq old).nodes (buildTree freq old').nodes := by
  have hle := seedLive_length_le freq
  have hseed : AgreeBelow 0 (seedNodes freq old) (seedNodes freq old') :=
    fun i hi => (seedNodes_leaf hi).trans (seedNodes_leaf hi).symm
  rw [← Nat.zero_add ((seedLive freq).length - 1)]
  exact hseed.mergeLoop _ (by omega) le_rfl fun i hi => mem_seedLive_lt hi

/-- The records up to the root are leaf records or were written by a merge. -/
theorem lt_of_le_root {freq : Vector Count 256} {old : Vector Node 511} {i : NodeIdx}
    (h : i ≤ (buildTree freq old).root) : i.val < 256 + ((seedLive freq).length - 1) := by
  rw [Fin.le_def] at h
  rcases Nat.lt_or_ge 1 (seedLive freq).length with h2 | h1
  · exact (le_buildTree_root h2).1 h
  · rcases Nat.le_one_iff_eq_zero_or_eq_one.1 h1 with hn | hn
    · rw [buildTree_root_of_none hn] at h
      exact Nat.lt_of_le_of_lt h (by simp)
    · have := buildTree_root_lt (old := old) hn
      omega

/-- Settles O37: the seeded records and collection are FREQ's, NLEAVES and ROOT are read off the collection, and merges
see no record that they or the seeding have not written. -/
theorem buildDependsOnFreqAlone : Obligations.BuildDependsOnFreqAlone := by
  intro s s' t t' h0 h0' hfreq hb hb'
  obtain rfl := exec_build h0 hb
  obtain rfl := exec_build h0' hb'
  rw [← hfreq]
  refine ⟨?nleaves, ?root, fun i hi => agreeBelow_buildTree s.freq s.nodes s'.nodes i ?seen⟩
  case nleaves => exact (buildTree_nleaves s.freq s.nodes).trans (buildTree_nleaves s.freq s'.nodes).symm
  case root => exact (buildTree_root s.freq s.nodes).trans (buildTree_root s.freq s'.nodes).symm
  case seen =>
    rcases hi with hi | hi
    · omega
    · exact lt_of_le_root (old := s.nodes) hi

end Sys2Proof.Machine

/-! PROOFS, 41_tree_builder, optimality (R128). A strict binary tree enters the argument by the depths of its leaves
alone: these are depths `d` with `∑ 2^(-d) = 1` (Kraft). Two elements of least weight can be moved to the greatest
depth and joined there, which leaves one element less and again such depths; the merge loop does the same. -/

namespace Sys2Proof.Machine

/-! ## Depths of leaves -/

section Depths

variable {α : Type}

/-- The weighted depth sum of weighted elements at given depths. -/
def depthCost (w d : α → ℕ) (l : List α) : ℕ := (l.map fun i => w i * d i).sum

/-- Kraft's equation, which the depths of a strict binary tree's leaves satisfy (`SymTree.kraft`). -/
def Kraft (l : List α) (d : α → ℕ) : Prop := (l.map fun i => (1 / 2 : ℚ) ^ d i).sum = 1

theorem Kraft.sum_pow {l : List α} {d : α → ℕ} (h : Kraft l d) {D : ℕ} (hD : ∀ i ∈ l, d i ≤ D) :
    (l.map fun i => 2 ^ (D - d i)).sum = 2 ^ D := by
  have hterm : ∀ i ∈ l, ((2 ^ (D - d i) : ℕ) : ℚ) = 2 ^ D * (1 / 2 : ℚ) ^ d i := by
    intro i hi
    rw [Nat.cast_pow, Nat.cast_ofNat, one_div, inv_pow, pow_sub₀ _ two_ne_zero (hD i hi)]
  have hsum : (((l.map fun i => 2 ^ (D - d i)).sum : ℕ) : ℚ) = 2 ^ D := by
    rw [Nat.cast_list_sum, List.map_map]
    rw [List.map_congr_left (f := Nat.cast ∘ fun i => 2 ^ (D - d i)) hterm, List.sum_map_mul_left, h, mul_one]
  exact_mod_cast hsum

theorem Kraft.congr {d d' : α → ℕ} {l : List α} (h : Kraft l d) (hd : ∀ i ∈ l, d' i = d i) : Kraft l d' := by
  rw [Kraft, List.map_congr_left fun i hi => by rw [hd i hi]]
  exact h

theorem depthCost_congr {w w' d d' : α → ℕ} {l : List α} (hw : ∀ i ∈ l, w i = w' i)
    (hd : ∀ i ∈ l, d i = d' i) : depthCost w d l = depthCost w' d' l := by
  rw [depthCost, List.map_congr_left fun i hi => by rw [hw i hi, hd i hi], depthCost]

variable [DecidableEq α] {l : List α} {d w : α → ℕ} {x y z a b : α}

/-- A sum over a collection with two of its elements named. -/
theorem sum_map_erase_erase {M : Type} [AddCommMonoid M] (f : α → M) (hx : x ∈ l) (hy : y ∈ l.erase x) :
    (l.map f).sum = f x + (f y + (((l.erase x).erase y).map f).sum) := by
  rw [List.sum_map_erase f hy, List.sum_map_erase f hx]

/-- The greatest depth is positive and taken twice: otherwise the sum of Kraft, scaled to it, has one odd term. -/
theorem Kraft.exists_two_deepest (h : Kraft l d) (hlen : 2 ≤ l.length) :
    ∃ a ∈ l, ∃ b ∈ l.erase a, (∀ i ∈ l, d i ≤ d a) ∧ d b = d a ∧ 0 < d a := by
  obtain ⟨a, ha, hmax⟩ := l.toFinset.exists_max_image d
    (List.toFinset_nonempty_iff l |>.2 (List.ne_nil_of_length_pos (by omega)))
  simp only [List.mem_toFinset] at ha hmax
  have hsum := h.sum_pow hmax
  obtain ⟨b, hb, hdb⟩ : ∃ b ∈ l.erase a, d b = d a := by
    by_contra hno
    have hlt : ∀ i ∈ l.erase a, d i < d a := fun i hi =>
      lt_of_le_of_ne (hmax i (List.mem_of_mem_erase hi)) fun he => hno ⟨i, hi, he⟩
    obtain ⟨c, hc⟩ := List.exists_mem_of_length_pos (l := l.erase a) (by rw [List.length_erase_of_mem ha]; omega)
    have heven : 2 ∣ ((l.erase a).map fun i => 2 ^ (d a - d i)).sum := List.dvd_sum fun n hn => by
      obtain ⟨i, hi, rfl⟩ := List.mem_map.1 hn
      exact dvd_pow_self 2 (Nat.sub_ne_zero_of_lt (hlt i hi))
    have heven' : 2 ∣ 2 ^ d a := dvd_pow_self 2 (Nat.ne_zero_of_lt (hlt c hc))
    rw [← List.sum_map_erase _ ha, Nat.sub_self, pow_zero] at hsum
    omega
  refine ⟨a, ha, b, hb, hmax, hdb, Nat.pos_of_ne_zero fun h0 => ?_⟩
  rw [sum_map_erase_erase _ ha hb, hdb, h0] at hsum
  simp at hsum

theorem swap_mem (hx : x ∈ l) (ha : a ∈ l) {i : α} (hi : i ∈ l) : Equiv.swap x a i ∈ l := by
  rw [Equiv.swap_apply_def]
  split_ifs <;> assumption

theorem perm_map_swap (hl : l.Nodup) (hx : x ∈ l) (ha : a ∈ l) : (l.map (Equiv.swap x a)).Perm l := by
  refine (List.perm_ext_iff_of_nodup (hl.map (Equiv.swap x a).injective) hl).2 fun i => ⟨fun hi => ?_, fun hi => ?_⟩
  · obtain ⟨j, hj, rfl⟩ := List.mem_map.1 hi
    exact swap_mem hx ha hj
  · exact List.mem_map.2 ⟨Equiv.swap x a i, swap_mem hx ha hi, by simp⟩

theorem Kraft.swap (h : Kraft l d) (hl : l.Nodup) (hx : x ∈ l) (ha : a ∈ l) : Kraft l (d ∘ Equiv.swap x a) := by
  have hperm := ((perm_map_swap hl hx ha).map fun i => (1 / 2 : ℚ) ^ d i).sum_eq
  rw [List.map_map] at hperm
  exact hperm.trans h

/-- An element of less weight goes deeper at no cost. -/
theorem depthCost_swap_le (hl : l.Nodup) (hx : x ∈ l) (ha : a ∈ l) (hw : w x ≤ w a) (hd : d x ≤ d a) :
    depthCost w (d ∘ Equiv.swap x a) l ≤ depthCost w d l := by
  by_cases hxa : a = x
  · rw [hxa, Equiv.swap_self]; rfl
  · have ha' : a ∈ l.erase x := hl.mem_erase_iff.2 ⟨hxa, ha⟩
    have hrest : ((l.erase x).erase a).map (fun i => w i * (d ∘ Equiv.swap x a) i) =
        ((l.erase x).erase a).map fun i => w i * d i := by
      refine List.map_congr_left fun i hi => ?_
      obtain ⟨hia, hi⟩ := (hl.erase x).mem_erase_iff.1 hi
      obtain ⟨hix, -⟩ := hl.mem_erase_iff.1 hi
      rw [Function.comp_apply, Equiv.swap_apply_of_ne_of_ne hix hia]
    rw [depthCost, depthCost, sum_map_erase_erase _ hx ha', sum_map_erase_erase _ hx ha', hrest]
    simp only [Function.comp_apply, Equiv.swap_apply_left, Equiv.swap_apply_right]
    have := mul_add_mul_le_mul_add_mul hw hd
    omega

/-- A lightest element can be moved to the greatest depth, where it is not alone. -/
theorem Kraft.exists_deepest (h : Kraft l d) (hl : l.Nodup) (hlen : 2 ≤ l.length) (hx : x ∈ l)
    (hwx : ∀ i ∈ l, w x ≤ w i) :
    ∃ d', Kraft l d' ∧ depthCost w d' l ≤ depthCost w d l ∧ (∀ i ∈ l, d' i ≤ d' x) ∧ 0 < d' x ∧
      ∃ b ∈ l.erase x, d' b = d' x := by
  obtain ⟨a, ha, b, hb, hmax, hdb, hpos⟩ := h.exists_two_deepest hlen
  obtain ⟨hba, hbl⟩ := hl.mem_erase_iff.1 hb
  have hdx : (d ∘ Equiv.swap x a) x = d a := by rw [Function.comp_apply, Equiv.swap_apply_left]
  have hbx : Equiv.swap x a b ≠ x := fun he => hba ((Equiv.swap_apply_eq_iff.1 he).trans (Equiv.swap_apply_left x a))
  refine ⟨d ∘ Equiv.swap x a, h.swap hl hx ha, depthCost_swap_le hl hx ha (hwx a ha) (hmax x hx), ?_, by rwa [hdx],
    Equiv.swap x a b, hl.mem_erase_iff.2 ⟨hbx, swap_mem hx ha hbl⟩, ?_⟩
  · exact fun i hi => hdx.symm ▸ hmax _ (swap_mem hx ha hi)
  · simp [hdb]

/-- The exchange step of Huffman's argument: the two lightest elements can be moved to the greatest depth. -/
theorem Kraft.exists_siblings (h : Kraft l d) (hl : l.Nodup) (hx : x ∈ l) (hy : y ∈ l.erase x)
    (hwx : ∀ i ∈ l, w x ≤ w i) (hwy : ∀ i ∈ l.erase x, w y ≤ w i) :
    ∃ d' D, Kraft l d' ∧ d' x = D + 1 ∧ d' y = D + 1 ∧ depthCost w d' l ≤ depthCost w d l := by
  have hlen : 2 ≤ l.length := by
    have := List.length_pos_of_mem hy
    rw [List.length_erase_of_mem hx] at this
    omega
  obtain ⟨d₁, h₁, hle, hmax, hpos, b, hb, hdb⟩ := h.exists_deepest hl hlen hx hwx
  obtain ⟨hyx, hyl⟩ := hl.mem_erase_iff.1 hy
  obtain ⟨hbx, hbl⟩ := hl.mem_erase_iff.1 hb
  obtain ⟨D, hD⟩ := Nat.exists_eq_add_one_of_ne_zero hpos.ne'
  refine ⟨d₁ ∘ Equiv.swap y b, D, h₁.swap hl hyl hbl, ?_, ?_,
    (depthCost_swap_le hl hyl hbl (hwy b hb) (hdb.symm ▸ hmax y hyl)).trans hle⟩
  · rw [Function.comp_apply, Equiv.swap_apply_of_ne_of_ne hyx.symm hbx.symm, hD]
  · rw [Function.comp_apply, Equiv.swap_apply_left, hdb, hD]

/-- Two siblings joined in their parent's place. -/
theorem Kraft.merge (h : Kraft l d) (hx : x ∈ l) (hy : y ∈ l.erase x) (hdx : d x = d z + 1)
    (hdy : d y = d z + 1) : Kraft (z :: (l.erase x).erase y) d := by
  rw [Kraft, sum_map_erase_erase _ hx hy, hdx, hdy, pow_succ] at h
  rw [Kraft, List.map_cons, List.sum_cons]
  refine Eq.trans ?_ h
  ring

theorem depthCost_siblings (hx : x ∈ l) (hy : y ∈ l.erase x) (hdx : d x = d z + 1) (hdy : d y = d z + 1)
    (hw : w z = w x + w y) : depthCost w d l = depthCost w d (z :: (l.erase x).erase y) + w z := by
  rw [depthCost, depthCost, sum_map_erase_erase _ hx hy, List.map_cons, List.sum_cons, hdx, hdy, hw]
  ring

end Depths

/-! ## Strict binary trees (R128) -/

/-- The depth of a symbol's leaf. -/
def SymTree.depthOf : SymTree → Symbol → ℕ
  | .leaf _, _ => 0
  | .node l r, sym => (if sym ∈ l.leaves then l.depthOf sym else r.depthOf sym) + 1

theorem SymTree.sum_leaves_node {M : Type} [AddCommMonoid M] (f : Symbol → ℕ → M) {l r : SymTree}
    (h : (SymTree.node l r).leaves.Nodup) :
    ((SymTree.node l r).leaves.map fun sym => f sym ((SymTree.node l r).depthOf sym)).sum =
      (l.leaves.map fun sym => f sym (l.depthOf sym + 1)).sum +
        (r.leaves.map fun sym => f sym (r.depthOf sym + 1)).sum := by
  have hdisj := (List.nodup_append'.1 h).2.2
  rw [SymTree.leaves, List.map_append, List.sum_append]
  congr 2
  · refine List.map_congr_left fun sym hsym => ?_
    rw [SymTree.depthOf, if_pos hsym]
  · refine List.map_congr_left fun sym hsym => ?_
    rw [SymTree.depthOf, if_neg fun hl => hdisj hl hsym]

theorem SymTree.cost_eq_sum (freq : Vector Count 256) {t : SymTree} (h : t.leaves.Nodup) (d : ℕ) :
    t.cost freq d = (t.leaves.map fun sym => (freq[sym.toFin]).toNat * (t.depthOf sym + d)).sum := by
  induction t generalizing d with
  | leaf sym => simp [SymTree.cost, SymTree.leaves, SymTree.depthOf]
  | node l r ihl ihr =>
    obtain ⟨hl, hr, -⟩ := List.nodup_append'.1 h
    rw [SymTree.sum_leaves_node (fun sym n => (freq[sym.toFin]).toNat * (n + d)) h, SymTree.cost, ihl hl, ihr hr]
    simp only [Nat.add_assoc, Nat.add_comm d]

theorem SymTree.kraft {t : SymTree} (h : t.leaves.Nodup) : Kraft t.leaves t.depthOf := by
  induction t with
  | leaf sym => simp [Kraft, SymTree.leaves, SymTree.depthOf]
  | node l r ihl ihr =>
    obtain ⟨hl, hr, -⟩ := List.nodup_append'.1 h
    rw [Kraft, SymTree.sum_leaves_node (fun _ n => (1 / 2 : ℚ) ^ n) h]
    simp only [pow_succ, List.sum_map_mul_right]
    rw [ihl hl, ihr hr]
    norm_num

/-! ## The merges (R121) -/

/-- The weights that the arena records (R122, R124), as numbers. -/
def weights (nodes : Vector Node 511) (i : NodeIdx) : ℕ := (nodes[i]).weight.toNat

/-- `depth` is the depth in the tree that the first `k` merges made: 0 where there is no parent, else one more than the
parent's. -/
structure IsDepth (freq : Vector Count 256) (nodes : Vector Node 511) (k : Nat) (depth : NodeIdx → ℕ) : Prop where
  root : ∀ i, LiveBefore freq nodes k i → depth i = 0
  child : ∀ p i : NodeIdx, 256 ≤ p.val → p.val < 256 + k → (nodes[p]).HasChild i → depth i = depth p + 1

section Merges

variable {freq : Vector Count 256} {k : Nat} {nodes : Vector Node 511} {live : List NodeIdx} {x y : NodeIdx}
  {d : NodeIdx → ℕ}

/-- The depth sum before a merge whose two nodes are siblings, from the one after it. -/
theorem MergeInv.depthCost_merge (h : MergeInv freq k nodes live) (hk : k ≤ 254) (hx : x ∈ live)
    (hy : y ∈ live.erase x) (hdx : d x = d (internalIdx k) + 1) (hdy : d y = d (internalIdx k) + 1) :
    depthCost (weights nodes) d live =
      depthCost (weights (nodes.set (internalIdx k) (mergedNode nodes x y))) d
        (internalIdx k :: (live.erase x).erase y) + (mergedNode nodes x y).weight.toNat := by
  have hold : ∀ i ∈ live, weights nodes i = weights (nodes.set (internalIdx k) (mergedNode nodes x y)) i :=
    fun i hi => by rw [weights, weights, getElem_set_internalIdx_of_lt hk _ (h.made_of_mem hi).lt]
  have hnew : weights (nodes.set (internalIdx k) (mergedNode nodes x y)) (internalIdx k) =
      (mergedNode nodes x y).weight.toNat := by rw [weights, getElem_set_internalIdx_self]
  rw [depthCost_congr hold fun _ _ => rfl, ← hnew]
  refine depthCost_siblings hx hy hdx hdy ?_
  rw [hnew, h.merged_weight hx hy, ← hold x hx, ← hold y (List.mem_of_mem_erase hy), weights, weights]

/-- Depths of a tree on the live nodes, changed so that the two nodes merged next are siblings. -/
theorem MergeInv.exists_siblings (h : MergeInv freq k nodes live) (hk : k ≤ 254) (hx : IsFirst nodes live x)
    (hy : IsFirst nodes (live.erase x) y) (hd : Kraft live d) :
    ∃ d', Kraft live d' ∧ d' x = d' (internalIdx k) + 1 ∧ d' y = d' (internalIdx k) + 1 ∧
      depthCost (weights nodes) d' live ≤ depthCost (weights nodes) d live := by
  obtain ⟨d', D, hd', hdx, hdy, hle⟩ := hd.exists_siblings (w := weights nodes) h.nodup hx.mem hy.mem
    (fun i hi => hx.weight_le hi) (fun i hi => hy.weight_le hi)
  have hold : ∀ i ∈ live, Function.update d' (internalIdx k) D i = d' i := fun i hi => by
    refine Function.update_of_ne ?_ _ _
    rintro rfl
    have := (h.made_of_mem hi).lt
    rw [internalIdx_val hk] at this
    omega
  refine ⟨Function.update d' (internalIdx k) D, hd'.congr hold, ?_, ?_, ?_⟩
  · rw [hold x hx.mem, hdx, Function.update_self]
  · rw [hold y (List.mem_of_mem_erase hy.mem), hdy, Function.update_self]
  · rwa [depthCost_congr (fun _ _ => rfl) hold]

/-- The finished arena's depths cost no more than those of any strict binary tree on the live nodes. -/
theorem MergeInv.depthCost_le (m : Nat) (h : MergeInv freq k nodes live) (hk : k + m ≤ 255)
    (hlen : live.length = m + 1) {depth : NodeIdx → ℕ}
    (hdepth : IsDepth freq (mergeLoop m k nodes live) (k + m) depth) (hd : Kraft live d) :
    depthCost (weights nodes) depth live ≤ depthCost (weights nodes) d live := by
  induction m generalizing k nodes live d with
  | zero =>
    obtain ⟨i, rfl⟩ := List.length_eq_one_iff.1 hlen
    have h0 : depth i = 0 := hdepth.root i ((h.mem_live i).1 List.mem_cons_self)
    simp [depthCost, h0]
  | succ m ih =>
    obtain ⟨x, y, hx, hy, hloop⟩ := exists_isFirst_mergeLoop_succ m k nodes (show 2 ≤ live.length by omega)
    have hv := internalIdx_val (show k ≤ 254 by omega)
    rw [hloop, show k + (m + 1) = k + 1 + m by omega] at hdepth
    have hchild : ∀ i, (mergedNode nodes x y).HasChild i → depth i = depth (internalIdx k) + 1 := fun i hi =>
      hdepth.child (internalIdx k) i (by omega) (by omega) (by rwa [getElem_mergeLoop_set (by omega)])
    obtain ⟨d', hd', hdx, hdy, hle⟩ := h.exists_siblings (by omega) hx hy hd
    have hrest := ih (h.merge (by omega) hx.mem hy.mem) (by omega) (length_merged hx.mem hy.mem hlen) hdepth
      (hd'.merge hx.mem hy.mem hdx hdy)
    calc depthCost (weights nodes) depth live
      _ = _ := h.depthCost_merge (by omega) hx.mem hy.mem (hchild x (.inl rfl)) (hchild y (.inr rfl))
      _ ≤ _ := Nat.add_le_add_right hrest _
      _ = depthCost (weights nodes) d' live := (h.depthCost_merge (by omega) hx.mem hy.mem hdx hdy).symm
      _ ≤ depthCost (weights nodes) d live := hle

end Merges

/-! ## Depths in BUILD's tree -/

section Built

variable {freq : Vector Count 256} {old : Vector Node 511}

theorem hasChild_childOn (n : Node) (b : Bool) : n.HasChild (childOn n b) := by
  cases b with
  | false => exact .inl rfl
  | true => exact .inr rfl

theorem childOn_injective {n : Node} (h : n.left ≠ n.right) : Function.Injective (childOn n) := by
  rintro (_ | _) (_ | _) he
  · rfl
  · exact absurd he h
  · exact absurd he.symm h
  · rfl

/-- A path that is not empty ends on a child of a node of the tree. -/
theorem exists_parent_of_reaches {i : NodeIdx} {bits : List Bool} {b : Bool} (h : 1 ≤ (seedLive freq).length)
    (hr : Reaches (buildTree freq old).nodes (buildTree freq old).root (bits ++ [b]) i) :
    ∃ p : NodeIdx, Reaches (buildTree freq old).nodes (buildTree freq old).root bits p ∧ 256 ≤ p.val ∧
      p.val < 256 + ((seedLive freq).length - 1) ∧ childOn (buildTree freq old).nodes[p] b = i := by
  obtain ⟨p, hp, hpi, hchild⟩ := reaches_append.1 hr
  exact ⟨p, hp, hpi, (inTree_buildTree.1 (inTree_of_reaches h (inTree_root h) hp)).lt, hchild⟩

/-- A node of BUILD's tree has one path from the root, because it has one parent and the root none. -/
theorem reaches_buildTree_unique (h : 1 ≤ (seedLive freq).length) {i : NodeIdx} {bits bits' : List Bool}
    (hr : Reaches (buildTree freq old).nodes (buildTree freq old).root bits i)
    (hr' : Reaches (buildTree freq old).nodes (buildTree freq old).root bits' i) : bits = bits' := by
  have hinv := buildTree_mergeInv (old := old) h
  have hroot : ∀ {bits b}, ¬ Reaches (buildTree freq old).nodes (buildTree freq old).root (bits ++ [b])
      (buildTree freq old).root := by
    intro bits b hr
    obtain ⟨p, -, hp, hpk, hchild⟩ := exists_parent_of_reaches h hr
    exact hinv.not_hasChild_of_mem List.mem_cons_self hp hpk (hchild ▸ hasChild_childOn _ _)
  induction bits using List.reverseRecOn generalizing i bits' with
  | nil =>
    obtain rfl := reaches_nil.1 hr
    cases bits' using List.reverseRecOn with
    | nil => rfl
    | append_singleton bits' b' => exact absurd hr' hroot
  | append_singleton bits b ih =>
    cases bits' using List.reverseRecOn with
    | nil =>
      obtain rfl := reaches_nil.1 hr'
      exact absurd hr hroot
    | append_singleton bits' b' =>
      obtain ⟨p, hreach, hp, hpk, hchild⟩ := exists_parent_of_reaches h hr
      obtain ⟨p', hreach', hp', hpk', hchild'⟩ := exists_parent_of_reaches h hr'
      obtain rfl := hinv.oneParent p p' i hp hpk hp' hpk' (hchild ▸ hasChild_childOn _ _)
        (hchild' ▸ hasChild_childOn _ _)
      obtain ⟨hne, -, -⟩ := hinv.children p hp hpk
      rw [ih hreach hreach', childOn_injective hne (hchild.trans hchild'.symm)]

theorem isDepth_of_paths (h : 1 ≤ (seedLive freq).length) {paths : NodeIdx → List Bool}
    (hpaths : ∀ i, InTree freq (buildTree freq old) i →
      Reaches (buildTree freq old).nodes (buildTree freq old).root (paths i) i) :
    IsDepth freq (buildTree freq old).nodes ((seedLive freq).length - 1) fun i => (paths i).length where
  root i hi := by
    obtain rfl := List.mem_singleton.1 (((buildTree_mergeInv h).mem_live i).2 hi)
    rw [reaches_buildTree_unique h (hpaths _ (inTree_root h)) (reaches_nil.2 rfl), List.length_nil]
  child p i hp hpk hi := by
    obtain ⟨b, hb⟩ := exists_childOn_of_hasChild hi
    have hpt : InTree freq (buildTree freq old) p := inTree_buildTree.2 (.inr ⟨hp, hpk⟩)
    have hit : InTree freq (buildTree freq old) i :=
      inTree_buildTree.2 ((buildTree_mergeInv h).made_of_hasChild hp hpk hi)
    have hreach := (reaches_append (bits' := [b])).2 ⟨p, hpaths p hpt, hp, hb⟩
    rw [reaches_buildTree_unique h (hpaths i hit) hreach, List.length_append, List.length_singleton]

/-- BUILD's tree with its own depths costs no more than any depths of a strict binary tree on the present leaves. -/
theorem exists_depth_buildTree (freq : Vector Count 256) (old : Vector Node 511) (h : 1 ≤ (seedLive freq).length) :
    ∃ paths : NodeIdx → List Bool,
      (∀ i, InTree freq (buildTree freq old) i →
        Reaches (buildTree freq old).nodes (buildTree freq old).root (paths i) i) ∧
      ∀ d, Kraft (seedLive freq) d →
        depthCost (weights (seedNodes freq old)) (fun i => (paths i).length) (seedLive freq) ≤
          depthCost (weights (seedNodes freq old)) d (seedLive freq) := by
  have hex : ∀ i, ∃ bits, InTree freq (buildTree freq old) i →
      Reaches (buildTree freq old).nodes (buildTree freq old).root bits i := by
    intro i
    by_cases hi : InTree freq (buildTree freq old) i
    · obtain ⟨bits, hbits⟩ := exists_reaches_buildTree h hi
      exact ⟨bits, fun _ => hbits⟩
    · exact ⟨[], fun hi' => absurd hi' hi⟩
  choose paths hpaths using hex
  have hle := seedLive_length_le freq
  have hdepth := isDepth_of_paths h hpaths
  rw [← Nat.zero_add ((seedLive freq).length - 1)] at hdepth
  exact ⟨paths, hpaths, fun d hd =>
    (mergeInv_seed freq old).depthCost_le _ (by omega) (by omega) hdepth hd⟩

end Built

/-! ## The two sums of R128 -/

section Sums

variable {freq : Vector Count 256} (old : Vector Node 511) {t : SymTree}

theorem weights_seedNodes (freq : Vector Count 256) (sym : Fin 256) :
    weights (seedNodes freq old) (leafIdx sym) = (freq[sym]).toNat :=
  seedNodes_leaf_weight freq old sym

/-- Absent symbols weigh nothing, so the sum over all symbols is the sum over the seeded collection. -/
theorem weightedLength_eq_depthCost {paths : Symbol → List Bool} {depth : NodeIdx → ℕ}
    (h : ∀ sym : Fin 256, freq[sym] ≠ 0#32 → (paths (BitVec.ofNat 8 sym.val)).length = depth (leafIdx sym)) :
    weightedLength freq paths = depthCost (weights (seedNodes freq old)) depth (seedLive freq) := by
  have habsent : (((List.finRange 256).filter fun sym => ¬ (freq[sym] != 0#32) = true).map fun sym =>
      (freq[sym]).toNat * (paths (BitVec.ofNat 8 sym.val)).length).sum = 0 := by
    refine List.sum_eq_zero fun n hn => ?_
    obtain ⟨sym, hsym, rfl⟩ := List.mem_map.1 hn
    have h0 : freq[sym] = 0#32 := by simpa using hsym
    rw [h0, BitVec.toNat_zero, Nat.zero_mul]
  rw [weightedLength, ← List.sum_map_filter_add_sum_map_filter_not (fun sym => (freq[sym] != 0#32) = true), habsent,
    Nat.add_zero, depthCost, seedLive_eq, List.map_map]
  simp only [Bool.decide_eq_true]
  refine congrArg List.sum (List.map_congr_left fun sym hsym => ?_)
  rw [Function.comp_apply, weights_seedNodes, h sym (by simpa using hsym)]

/-- A tree's leaves are the seeded collection in another order. -/
theorem perm_seedLive (hnd : t.leaves.Nodup) (hmem : ∀ sym, sym ∈ t.leaves ↔ Present freq sym) :
    (t.leaves.map fun sym => leafIdx sym.toFin).Perm (seedLive freq) := by
  have hinj : Function.Injective fun sym : Symbol => leafIdx sym.toFin :=
    fun a b hab => BitVec.eq_of_toNat_eq (congrArg (fun i : NodeIdx => i.val) hab)
  refine (List.perm_ext_iff_of_nodup (hnd.map hinj) (seedLive_nodup freq)).2 fun i => ?_
  simp only [List.mem_map, mem_seedLive_iff_present, hmem, Fin.ext_iff]
  exact exists_congr fun sym => and_comm.trans (and_congr_left fun _ => eq_comm)

/-- The depths of a tree's leaves, by node index. -/
def SymTree.leafDepth (t : SymTree) (i : NodeIdx) : ℕ := t.depthOf (BitVec.ofNat 8 i.val)

@[simp] theorem SymTree.leafDepth_leafIdx (t : SymTree) (sym : Symbol) :
    t.leafDepth (leafIdx sym.toFin) = t.depthOf sym :=
  congrArg t.depthOf (BitVec.ofNat_toNat 8 sym)

theorem cost_eq_depthCost (hnd : t.leaves.Nodup) (hmem : ∀ sym, sym ∈ t.leaves ↔ Present freq sym) :
    t.cost freq 0 = depthCost (weights (seedNodes freq old)) t.leafDepth (seedLive freq) := by
  rw [depthCost, ← ((perm_seedLive hnd hmem).map _).sum_eq, List.map_map, SymTree.cost_eq_sum freq hnd]
  simp only [Function.comp_def, weights_seedNodes, SymTree.leafDepth_leafIdx, Nat.add_zero]

theorem kraft_seedLive (hnd : t.leaves.Nodup) (hmem : ∀ sym, sym ∈ t.leaves ↔ Present freq sym) :
    Kraft (seedLive freq) t.leafDepth := by
  rw [Kraft, ← ((perm_seedLive hnd hmem).map _).sum_eq, List.map_map]
  simp only [Function.comp_def, SymTree.leafDepth_leafIdx]
  exact SymTree.kraft hnd

theorem SymTree.length_leaves_pos (t : SymTree) : 1 ≤ t.leaves.length := by
  induction t with
  | leaf sym => exact le_rfl
  | node l r ihl _ =>
    rw [SymTree.leaves, List.length_append]
    omega

end Sums

/-- Settles O38: both trees cost what their leaves' depths cost, and Huffman's argument compares the depths. -/
theorem buildIsOptimal : Obligations.BuildIsOptimal := by
  intro s t paths other h0 hb hpaths hnd hmem
  obtain rfl := exec_build h0 hb
  have h1 : 1 ≤ (seedLive s.freq).length := by
    rw [← (perm_seedLive hnd hmem).length_eq, List.length_map]
    exact other.length_leaves_pos
  obtain ⟨depth, hdepth, hopt⟩ := exists_depth_buildTree s.freq s.nodes h1
  rw [cost_eq_depthCost s.nodes hnd hmem, weightedLength_eq_depthCost s.nodes (depth := fun i => (depth i).length) ?_]
  · exact hopt _ (kraft_seedLive hnd hmem)
  · intro sym hsym
    have hpresent : Present s.freq (BitVec.ofNat 8 sym.val) := by
      simpa [Present] using hsym
    have hval : (leafIdx sym).val = (BitVec.ofNat 8 sym.val).toNat := by
      simp [leafIdx]
    rw [reaches_buildTree_unique h1 (hpaths _ _ hpresent hval) (hdepth _ ((inTree_leaf_iff hval).2 hpresent))]

end Sys2Proof.Machine

/-! PROOFS, 42_code_generator (R141 to R148): in the tables GEN leaves, the code of a present symbol is the path to its
leaf, or `1` in a tree of one leaf, and every other code is empty. Paths to two leaves part, so no code begins another.
The commands that read the tables answer from them or raise NoCode. -/

namespace Sys2Proof.Machine

/-! ## GEN's tables (R141 to R143) -/

theorem CodeTables.holds_blank (sym : Symbol) : CodeTables.blank.Holds sym [] := by
  simp [CodeTables.Holds, CodeTables.blank]

/-- Writing codes of other symbols keeps a symbol's entry. -/
theorem holds_foldl_write_of_forall_ne {leaves : List (Symbol × List Bool)} {t : CodeTables} {sym : Symbol}
    {path : List Bool} (hne : ∀ leaf ∈ leaves, leaf.1 ≠ sym) (h : t.Holds sym path) :
    (leaves.foldl (fun tables leaf => tables.write leaf.1 leaf.2) t).Holds sym path := by
  induction leaves generalizing t with
  | nil => exact h
  | cons leaf leaves ih =>
    obtain ⟨hleaf, hrest⟩ := List.forall_mem_cons.1 hne
    exact ih hrest ((CodeTables.holds_write_other leaf.2 hleaf).2 h)

/-- An entry of at most 255 bits has its own length beside it. -/
theorem length_readCode_of_holds {s : State} {sym : Symbol} {path : List Bool} (h : s.codes.Holds sym path)
    (hlen : path.length ≤ 255) : (s.readCode sym).length = (s.readClen sym).toNat := by
  have hclen : s.readClen sym = BitVec.ofNat 8 path.length := h.2
  rw [readCode_of_holds h hlen, hclen, BitVec.toNat_ofNat, Nat.mod_eq_of_lt (by omega)]

section Tables

variable {freq : Vector Count 256} {t : BuiltTree} {tables : CodeTables} {sym : Symbol}

/-- With two leaves or more a present symbol's entry is a path from the root to its leaf (R142). -/
theorem exists_path_of_present (ht : ∃ old, t = buildTree freq old) (hg : genCodes t = some tables)
    (h2 : 2 ≤ t.nleaves.val) (hsym : Present freq sym) :
    ∃ path, Reaches t.nodes t.root path (leafIdx sym.toFin) ∧ path.length ≤ 255 ∧ tables.Holds sym path := by
  obtain ⟨old, rfl⟩ := ht
  obtain ⟨leaves, hw, rfl⟩ := genCodes_eq_some_of_two_le h2 hg
  rw [buildTree_nleaves_val] at h2
  obtain ⟨bits, hbits⟩ := exists_reaches_buildTree (old := old) (by omega) (inTree_leafIdx hsym)
  obtain ⟨path, hmem, hholds⟩ := exists_holds_foldl_write .blank ⟨bits, (mem_walk hw).2 ⟨bits, hbits, rfl⟩⟩
  obtain ⟨path, hpath, rfl⟩ := (mem_walk hw).1 hmem
  exact ⟨path, hpath, length_le_of_walk hw hpath, hholds⟩

/-- With one leaf the present symbol's entry is `1`, because the root is its leaf (R143). -/
theorem holds_singleton_of_present (ht : ∃ old, t = buildTree freq old) (hg : genCodes t = some tables)
    (h1 : t.nleaves = 1) (hsym : Present freq sym) : tables.Holds sym [true] := by
  obtain ⟨old, rfl⟩ := ht
  obtain rfl := genCodes_eq_some_of_one h1 hg
  have hlen : (seedLive freq).length = 1 := by rw [← buildTree_nleaves_val freq old, h1]; rfl
  have hroot := buildTree_root_lt (old := old) hlen
  obtain ⟨bits, hbits⟩ := exists_reaches_buildTree (old := old) hlen.ge (inTree_leafIdx hsym)
  obtain ⟨-, hleaf⟩ := (reaches_of_lt hroot).1 hbits
  rw [← (eq_ofNat_iff_eq_leafIdx hroot).2 hleaf]
  exact CodeTables.holds_write_self _ _ _

/-- An absent symbol's entry is empty, because GEN writes codes of the tree's leaves only (R141). -/
theorem holds_nil_of_not_present (ht : ∃ old, t = buildTree freq old) (hg : genCodes t = some tables)
    (hsym : ¬ Present freq sym) : tables.Holds sym [] := by
  obtain ⟨old, rfl⟩ := ht
  have hn := buildTree_nleaves_val freq old
  by_cases h0 : (buildTree freq old).nleaves = 0
  · rw [genCodes, if_pos h0] at hg
    obtain rfl := Option.some.inj hg
    exact CodeTables.holds_blank sym
  by_cases h1 : (buildTree freq old).nleaves = 1
  · obtain rfl := genCodes_eq_some_of_one h1 hg
    obtain ⟨root, hpresent, hval⟩ := buildTree_root_of_one (old := old) (by rw [← hn, h1]; rfl)
    refine (CodeTables.holds_write_other _ ?_).2 (CodeTables.holds_blank sym)
    rw [hval, BitVec.ofNat_toNat, BitVec.setWidth_eq]
    rintro rfl
    exact hsym hpresent
  · have h2 : 2 ≤ (buildTree freq old).nleaves.val := by omega
    obtain ⟨leaves, hw, rfl⟩ := genCodes_eq_some_of_two_le h2 hg
    refine holds_foldl_write_of_forall_ne (fun leaf hleaf hs => hsym ?_) (CodeTables.holds_blank sym)
    obtain ⟨bits, hbits, -⟩ := (mem_walk hw).1 (show (sym, leaf.2) ∈ leaves from hs ▸ hleaf)
    have hlen : 1 ≤ (seedLive freq).length := by omega
    exact (inTree_leaf_iff rfl).1 (inTree_of_reaches hlen (inTree_root hlen) hbits)

end Tables

/-! ## The codes of a state with CV = 1 (R142, R143) -/

section Codes

variable {s : State} {sym : Symbol}

theorem State.Inv.exists_tree_of_cv (h : s.Inv) (hcv : s.cv = true) : ∃ old, s.tree = buildTree s.freq old :=
  h.tree (h.codesNeedTree hcv)

theorem State.Inv.reaches_readCode (h : s.Inv) (hcv : s.cv = true) (h2 : 2 ≤ s.nleaves.val)
    (hsym : Present s.freq sym) : Reaches s.nodes s.root (s.readCode sym) (leafIdx sym.toFin) := by
  obtain ⟨path, hpath, hlen, hholds⟩ := exists_path_of_present (h.exists_tree_of_cv hcv) (h.codes hcv) h2 hsym
  rw [readCode_of_holds hholds hlen]
  exact hpath

theorem State.Inv.readCode_eq_singleton (h : s.Inv) (hcv : s.cv = true) (h1 : s.nleaves.val = 1)
    (hsym : Present s.freq sym) : s.readCode sym = [true] :=
  readCode_of_holds (holds_singleton_of_present (h.exists_tree_of_cv hcv) (h.codes hcv) (Fin.ext h1) hsym) (by simp)

theorem State.Inv.holds_nil (h : s.Inv) (hcv : s.cv = true) (hsym : ¬ Present s.freq sym) :
    s.codes.Holds sym [] :=
  holds_nil_of_not_present (h.exists_tree_of_cv hcv) (h.codes hcv) hsym

theorem State.Inv.readCode_eq_nil (h : s.Inv) (hcv : s.cv = true) (hsym : ¬ Present s.freq sym) :
    s.readCode sym = [] :=
  readCode_of_holds (h.holds_nil hcv hsym) (by simp)

/-- CLEN is the code's length (10_state R27). -/
theorem State.Inv.length_readCode (h : s.Inv) (hcv : s.cv = true) (sym : Symbol) :
    (s.readCode sym).length = (s.readClen sym).toNat := by
  by_cases hsym : Present s.freq sym
  · obtain ⟨old, hold⟩ := h.exists_tree_of_cv hcv
    obtain ⟨path, -, hlen, hholds⟩ := exists_holds_of_present (hold ▸ h.codes hcv) hsym
    exact length_readCode_of_holds hholds hlen
  · exact length_readCode_of_holds (h.holds_nil hcv hsym) (by simp)

end Codes

/-- Settles O40: GEN keeps the invariant and sets CV, so the codes it leaves are those of a built tree; a code that is
not empty is a present symbol's. -/
theorem genCodesArePaths : Obligations.GenCodesArePaths := by
  intro s t hinv h0 htv h sym
  have ht := hinv.afterExec h
  obtain ⟨tables, -, rfl⟩ := exec_gen h0 htv h
  refine ⟨ht.length_readCode rfl sym, ht.readCode_eq_nil rfl, fun hsym h1 => ht.readCode_eq_singleton rfl h1 hsym,
    fun h2 hne => ⟨leafIdx sym.toFin, rfl, ht.reaches_readCode rfl h2 ?_⟩⟩
  exact not_not.1 fun hsym => hne (ht.readCode_eq_nil rfl hsym)

/-! ## No code begins another (R144) -/

/-- A path has one end. -/
theorem reaches_right_unique {nodes : Vector Node 511} {i j j' : NodeIdx} {bits : List Bool}
    (h : Reaches nodes i bits j) (h' : Reaches nodes i bits j') : j = j' := by
  induction bits generalizing i with
  | nil => exact (reaches_nil.1 h).symm.trans (reaches_nil.1 h')
  | cons b bits ih => exact ih (reaches_cons.1 h).2 (reaches_cons.1 h').2

/-- A path ends on the leaf it comes to, so no path to another leaf goes on from there. -/
theorem eq_of_reaches_leaf_of_isPrefix {nodes : Vector Node 511} {i j j' : NodeIdx} {bits bits' : List Bool}
    (hj : j.val < 256) (h : Reaches nodes i bits j) (h' : Reaches nodes i bits' j') (hp : bits <+: bits') :
    j = j' := by
  obtain ⟨rest, rfl⟩ := hp
  obtain ⟨p, hpre, hrest⟩ := reaches_append.1 h'
  obtain rfl := reaches_right_unique h hpre
  exact ((reaches_of_lt hj).1 hrest).2

theorem leafIdx_toFin_injective : Function.Injective fun sym : Symbol => leafIdx sym.toFin :=
  fun _ _ h => BitVec.eq_of_toNat_eq (congrArg (fun i : NodeIdx => i.val) h)

/-- A tree with two present symbols has two leaves or more. -/
theorem two_le_nleaves {freq : Vector Count 256} {t : BuiltTree} (ht : ∃ old, t = buildTree freq old)
    {a b : Symbol} (ha : Present freq a) (hb : Present freq b) (hne : a ≠ b) : 2 ≤ t.nleaves.val := by
  obtain ⟨old, rfl⟩ := ht
  have hnd : [leafIdx a.toFin, leafIdx b.toFin].Nodup := by simpa using leafIdx_toFin_injective.ne hne
  have hsub : [leafIdx a.toFin, leafIdx b.toFin] ⊆ seedLive freq := by
    simpa using ⟨mem_seedLive_iff_present.2 ⟨a, rfl, ha⟩, mem_seedLive_iff_present.2 ⟨b, rfl, hb⟩⟩
  exact buildTree_nleaves_val freq old ▸ (List.subperm_of_subset hnd hsub).length_le

/-- Settles O42: the two codes are paths from ROOT to different leaves. -/
theorem codesArePrefixFree : Obligations.CodesArePrefixFree := by
  intro s hinv hcv a b ha hb hne hp
  have h2 := two_le_nleaves (hinv.exists_tree_of_cv hcv) ha hb hne
  exact hne (leafIdx_toFin_injective (eq_of_reaches_leaf_of_isPrefix (leafIdx_val_lt _)
    (hinv.reaches_readCode hcv h2 ha) (hinv.reaches_readCode hcv h2 hb) hp))

/-! ## The commands (R141, R145 to R148) -/

/-- A command whose pseudocode raises a fault, in a CORE that is not halted (60_exceptions R246). -/
theorem exec_of_cmdBody_raise {i : Instr} {s s' : State} {c : Cause} (h0 : s.errCause = 0#4)
    (hb : cmdBody i s = .raise c s') : exec i s = .next (s'.faultEntry c i.opc i.aField) := by
  have hrun : runsHalted i s = false := by
    by_contra hr
    obtain ⟨s'', v, hdone⟩ := cmdBody_of_runsHalted (Bool.eq_true_of_not_eq_false hr)
    cases hb.symm.trans hdone
  rw [exec_eq, hrun]
  exact runCommand_of_raise i h0 hb

/-- Settles O39: the check of TV, and past it the tables of a built tree, which there always are. -/
theorem genCompletesOrNoTree : Obligations.GenCompletesOrNoTree := by
  intro s h0
  refine ⟨fun htv => ?_, fun hinv htv => ?_⟩
  · exact exec_of_cmdBody_raise (i := .gen) (c := .noTree) h0 (by simp [cmdBody, genBody, htv])
  · obtain ⟨t, ht⟩ := exec_completes hinv .gen
    obtain ⟨tables, -, rfl⟩ := exec_gen h0 htv ht
    exact ⟨_, ht, rfl⟩

/-- Settles O43: the check of CV, and past it CLEN zero-extended. -/
theorem rdclenAnswersLength : Obligations.RdclenAnswersLength := by
  intro s sym h0
  rw [BitVec.ofNat_toNat]
  exact ⟨fun hcv => exec_of_cmdBody_done (i := .rdclen sym) h0 (if_pos hcv),
    fun hcv => exec_of_cmdBody_raise (i := .rdclen sym) h0 (if_neg (ne_true_of_eq_false hcv))⟩

/-- Bit `n` of a code vector, counted from the most significant one, is code bit `n` (R146). -/
theorem getMsbD_codeVector {bits : List Bool} (hlen : bits.length ≤ 256) (n : Nat) :
    (codeVector bits).getMsbD n = bits.getD n false := by
  have hshift : n + (256 - bits.length) + bits.length - 256 = n := by omega
  rw [codeVector, BitVec.getMsbD_shiftLeft, BitVec.getMsbD_setWidth, BitVec.getMsbD_ofBoolListBE, hshift,
    decide_eq_true (by omega), Bool.true_and]

/-- Bit 31 - j of word `w` is code bit 32w + j (R146). -/
theorem getLsbD_codeWord {bits : List Bool} (hlen : bits.length ≤ 256) (w : BitVec 3) {j : Nat} (hj : j < 32) :
    (codeWord bits w).getLsbD (31 - j) = bits.getD (32 * w.toNat + j) false := by
  have hw := w.isLt
  rw [codeWord, BitVec.getLsbD_extractLsb', ← getMsbD_codeVector hlen, BitVec.getMsbD,
    decide_eq_true (by omega : 31 - j < 32), decide_eq_true (by omega : 32 * w.toNat + j < 256)]
  congr 2
  omega

/-- Settles O44: the check of CV, and past it the word of the code vector. -/
theorem rdcodeAnswersBits : Obligations.RdcodeAnswersBits := by
  intro s sym w h0
  have hlen := s.readCode_length_le sym
  exact ⟨fun hcv => ⟨_, exec_of_cmdBody_done (i := .rdcode sym w) h0 (if_pos hcv),
      fun j hj => getLsbD_codeWord (by omega) w hj⟩,
    fun hcv => exec_of_cmdBody_raise (i := .rdcode sym w) h0 (if_neg (ne_true_of_eq_false hcv))⟩

theorem encBody_of_no_code {s : State} {sym : Symbol} (h : s.cv = false ∨ s.readClen sym = 0#8) :
    encBody sym s = .raise .noCode s :=
  if_pos (by simpa using h)

theorem encBody_of_code {s : State} {sym : Symbol} (hcv : s.cv = true) (hclen : s.readClen sym ≠ 0#8) :
    encBody sym s = .done ((s.readCode sym).foldl emitCodeBit s) 0#32 :=
  if_neg (by simp [hcv, hclen])

/-- Settles O45: the check for a code, and past it EmitCodeBit on every bit, by CTRL.EPK. -/
theorem encEmitsCode : Obligations.EncEmitsCode := by
  intro s sym h0
  refine ⟨fun h => ?_, fun hcv hclen hepk => ?_, fun hcv hclen hepk => ?_⟩
  · exact exec_of_cmdBody_raise (i := .enc sym) h0 (encBody_of_no_code h)
  · rw [exec_of_cmdBody_done (i := .enc sym) h0 (encBody_of_code hcv hclen), foldl_emitCodeBit_outbit hepk]
    rfl
  · rw [exec_of_cmdBody_done (i := .enc sym) h0 (encBody_of_code hcv hclen), foldl_emitCodeBit_epk hepk,
      foldl_packBit_only]
    rfl

end Sys2Proof.Machine

/-! PROOFS, 43_bit_packer (R161 to R163, R166): what PBIT and PFLUSH leave, and that the units appended and PACC
together hold every bit fed since PN was 0, in order. -/

namespace Sys2Proof.Machine

/-! ## PackBit and PFLUSH, case by case (R161, R163) -/

/-- R161's `(PACC << 1) OR b` is the library's shift of one bit into a word. -/
theorem shiftLeft_or_ofBool (v : Byte) (b : Bool) :
    (v <<< 1) ||| (BitVec.ofBool b).setWidth 8 = v.shiftConcat b := by
  ext i hi
  rw [BitVec.getElem_shiftConcat]
  cases i <;> simp

theorem packBit_of_pn_ne_seven {s : State} (h : s.pn.toNat ≠ 7) (b : Bool) :
    packBit s b = { s with pacc := s.pacc.shiftConcat b, pn := BitVec.ofNat 3 (s.pn.toNat + 1) } := by
  have hpn : s.pn ≠ 7#3 := fun e => h (congrArg BitVec.toNat e)
  rw [packBit, if_neg hpn, shiftLeft_or_ofBool, BitVec.ofNat_add, BitVec.ofNat_toNat, BitVec.setWidth_eq]

theorem packBit_of_pn_eq_seven {s : State} (h : s.pn.toNat = 7) (b : Bool) :
    packBit s b = { s with outbyte := s.outbyte ++ [s.pacc.shiftConcat b], pacc := 0#8, pn := 0#3 } := by
  have hpn : s.pn = 7#3 := BitVec.eq_of_toNat_eq h
  rw [packBit, if_pos hpn, shiftLeft_or_ofBool, State.emitByte]

theorem flushed_of_pn_eq_zero {s : State} (h : s.pn.toNat = 0) :
    flushed s = { s with padlen := 0#3, pacc := 0#8, pn := 0#3 } :=
  if_pos (BitVec.eq_of_toNat_eq h)

theorem flushed_of_pn_ne_zero {s : State} (h : s.pn.toNat ≠ 0) :
    flushed s = { s with
      outbyte := s.outbyte ++ [s.pacc <<< (8 - s.pn.toNat)], padlen := BitVec.ofNat 3 (8 - s.pn.toNat),
      pacc := 0#8, pn := 0#3 } :=
  if_neg fun e => h (congrArg BitVec.toNat e)

/-! ## The commands (R162, R163) -/

theorem exec_pbit {s : State} (h0 : s.errCause = 0#4) (b : Bool) :
    exec (.pbit b) s = .next ((packBit s b).respond statOk 0#32) :=
  exec_of_cmdBody_done h0 rfl

theorem exec_pflush {s : State} (h0 : s.errCause = 0#4) :
    exec .pflush s = .next ((flushed s).respond statOk 0#32) :=
  exec_of_cmdBody_done h0 rfl

theorem shiftConcat_eq_ofNat (v : Byte) (b : Bool) :
    v.shiftConcat b = BitVec.ofNat 8 (2 * v.toNat + b.toNat) := by
  apply BitVec.eq_of_toNat_eq
  rw [BitVec.toNat_shiftConcat, BitVec.toNat_ofNat, Nat.shiftLeft_eq, pow_one, mul_comm]

/-- Settles O46: PackBit's two cases, the shift read as arithmetic modulo 256. -/
theorem pbitShiftsIn : Obligations.PbitShiftsIn := by
  intro s b h0
  rw [← shiftConcat_eq_ofNat, exec_pbit h0]
  refine ⟨fun hpn => ?_, fun hpn => ?_⟩
  · rw [packBit_of_pn_ne_seven hpn]
    rfl
  · rw [packBit_of_pn_eq_seven hpn]
    rfl

theorem shiftLeft_eq_ofNat (v : Byte) (k : Nat) : v <<< k = BitVec.ofNat 8 (v.toNat * 2 ^ k) := by
  apply BitVec.eq_of_toNat_eq
  rw [BitVec.toNat_shiftLeft, BitVec.toNat_ofNat, Nat.shiftLeft_eq]

/-- Settles O47: PFLUSH's two cases, the shift read as arithmetic modulo 256. -/
theorem pflushPadsAndRecords : Obligations.PflushPadsAndRecords := by
  intro s h0
  rw [← shiftLeft_eq_ofNat, exec_pflush h0]
  refine ⟨fun hpn => ?_, fun hpn => ?_⟩
  · rw [flushed_of_pn_ne_zero hpn]
    rfl
  · rw [flushed_of_pn_eq_zero hpn]
    rfl

/-! ## The bits a word holds -/

/-- The low `n` bits of `v`, the highest of them first, are the bits of `q` from `off` on, 0 past its end. -/
def HoldsBits (v : Byte) (n : Nat) (q : List Bool) (off : Nat) : Prop :=
  ∀ i < n, v.getLsbD (n - 1 - i) = q.getD (off + i) false

section HoldsBits

variable {v : Byte} {n off : Nat} {q : List Bool}

theorem holdsBits_zero (v : Byte) (q : List Bool) (off : Nat) : HoldsBits v 0 q off :=
  fun _ hi => absurd hi (Nat.not_lt_zero _)

theorem HoldsBits.append (h : HoldsBits v n q off) (hlen : off + n ≤ q.length) (q' : List Bool) :
    HoldsBits v n (q ++ q') off := by
  intro i hi
  rw [h i hi, List.getD_append _ _ _ _ (by omega)]

/-- The next bit of the sequence, shifted in, is held below the others. -/
theorem HoldsBits.shiftConcat (h : HoldsBits v n q off) (hlen : off + n = q.length) (hn : n < 8) (b : Bool) :
    HoldsBits (v.shiftConcat b) (n + 1) (q ++ [b]) off := by
  intro i hi
  rw [BitVec.getLsbD_shiftConcat, decide_eq_true (by omega), Bool.true_and]
  rcases Nat.lt_succ_iff_lt_or_eq.1 hi with hlt | rfl
  · rw [if_neg (by omega), ← h.append hlen.le [b] i hlt]
    congr 1
    omega
  · simp [hlen]

/-- Padding with zeros below fills the unit up past the end of the sequence. -/
theorem HoldsBits.pad (h : HoldsBits v n q off) (hlen : off + n = q.length) (hn : n ≤ 8) :
    HoldsBits (v <<< (8 - n)) 8 q off := by
  intro i hi
  rw [BitVec.getLsbD_shiftLeft, decide_eq_true (by omega), Bool.true_and]
  by_cases hin : i < n
  · rw [decide_eq_false (by omega), Bool.not_false, Bool.true_and, ← h i hin]
    congr 1
    omega
  · rw [decide_eq_true (by omega), Bool.not_true, Bool.false_and, List.getD_eq_default _ _ (by omega)]

end HoldsBits

/-- Unit `m` holds the eight bits of `q` from bit `8 m` on. -/
def UnitsHold (units : List Byte) (q : List Bool) : Prop :=
  ∀ m (h : m < units.length), HoldsBits units[m] 8 q (8 * m)

section UnitsHold

variable {units : List Byte} {q : List Bool}

theorem unitsHold_nil (q : List Bool) : UnitsHold [] q :=
  fun _ hm => absurd hm (Nat.not_lt_zero _)

theorem UnitsHold.append (h : UnitsHold units q) (hlen : 8 * units.length ≤ q.length) (q' : List Bool) :
    UnitsHold units (q ++ q') :=
  fun m hm => (h m hm).append (by omega) q'

theorem UnitsHold.concat {v : Byte} (h : UnitsHold units q) (hv : HoldsBits v 8 q (8 * units.length)) :
    UnitsHold (units ++ [v]) q := by
  intro m hm
  rcases Nat.lt_succ_iff_lt_or_eq.1 (by simpa using hm) with hlt | rfl
  · rw [List.getElem_append_left hlt]
    exact h m hlt
  · rw [List.getElem_concat_length rfl]
    exact hv

end UnitsHold

/-! ## Feeding a bit sequence (R166) -/

/-- What the packer holds in `t` when `q` has been fed to it since `s`: `units` appended to OUTBYTE, and in the low PN
bits of PACC the bits that fill no unit yet. -/
structure PackedSince (s t : State) (q : List Bool) (units : List Byte) : Prop where
  outbyte : t.outbyte = s.outbyte ++ units
  length : 8 * units.length + t.pn.toNat = q.length
  full : UnitsHold units q
  rest : HoldsBits t.pacc t.pn.toNat q (8 * units.length)

section PackedSince

variable {s t : State} {q : List Bool} {units : List Byte}

theorem PackedSince.afterPackBit (h : PackedSince s t q units) (b : Bool) :
    ∃ units', PackedSince s (packBit t b) (q ++ [b]) units' := by
  have hlt := t.pn.isLt
  have hlen := h.length
  have hrest := h.rest.shiftConcat hlen (by omega) b
  have hfull := h.full.append (by omega) [b]
  by_cases hpn : t.pn.toNat = 7
  · rw [hpn] at hlen hrest
    rw [packBit_of_pn_eq_seven hpn]
    refine ⟨units ++ [t.pacc.shiftConcat b], ?_, ?_, hfull.concat hrest, holdsBits_zero _ _ _⟩
    · rw [h.outbyte, List.append_assoc]
    · rw [List.length_append, List.length_append, ← hlen]
      rfl
  · have hval : (BitVec.ofNat 3 (t.pn.toNat + 1)).toNat = t.pn.toNat + 1 := by
      rw [BitVec.toNat_ofNat, Nat.mod_eq_of_lt (by omega)]
    rw [packBit_of_pn_ne_seven hpn]
    exact ⟨units, h.outbyte, by rw [hval, List.length_append, ← hlen]; rfl, hfull, by rwa [hval]⟩

theorem exists_packedSince_foldl (hpn : s.pn = 0#3) (q : List Bool) :
    ∃ units, PackedSince s (q.foldl packBit s) q units := by
  induction q using List.reverseRecOn with
  | nil =>
    have h0 : s.pn.toNat = 0 := congrArg BitVec.toNat hpn
    exact ⟨[], (List.append_nil _).symm, (Nat.zero_add _).trans h0, unitsHold_nil [], h0 ▸ holdsBits_zero s.pacc [] 0⟩
  | append_singleton q b ih =>
    obtain ⟨units, h⟩ := ih
    rw [List.foldl_append]
    exact h.afterPackBit b

/-- PFLUSH completes the last unit, so all of `q` is in units. -/
theorem PackedSince.afterFlush (h : PackedSince s t q units) :
    ∃ units', flushed t = { t with
        outbyte := s.outbyte ++ units', padlen := BitVec.ofNat 3 (padLength q.length), pacc := 0#8, pn := 0#3 } ∧
      8 * units'.length = q.length + padLength q.length ∧ UnitsHold units' q := by
  have hlt := t.pn.isLt
  have hlen := h.length
  by_cases hpn : t.pn.toNat = 0
  · have hpad : padLength q.length = 0 := by
      unfold padLength
      omega
    rw [flushed_of_pn_eq_zero hpn, hpad]
    exact ⟨units, by rw [← h.outbyte], by omega, h.full⟩
  · have hpad : padLength q.length = 8 - t.pn.toNat := by
      unfold padLength
      omega
    rw [flushed_of_pn_ne_zero hpn, hpad, h.outbyte, List.append_assoc]
    refine ⟨units ++ [t.pacc <<< (8 - t.pn.toNat)], rfl, ?_, h.full.concat (h.rest.pad hlen (by omega))⟩
    rw [List.length_append, List.length_singleton]
    omega

end PackedSince

/-- Settles O48: the bits fed are in the units and PACC, by induction on the sequence from its end, and PFLUSH pads the
last of them into a unit. PackBit and PFLUSH write nothing but the packer and OUTBYTE. -/
theorem packerAppendsPack : Obligations.PackerAppendsPack := by
  intro s q h0 hpn
  obtain ⟨units, h⟩ := exists_packedSince_foldl hpn q
  obtain ⟨units', hflush, hlen, hunits⟩ := h.afterFlush
  have h0' : (q.foldl packBit s).errCause = 0#4 := by rwa [foldl_packBit_only]
  refine ⟨units', ?_, hlen, fun m i hm => hunits m hm i⟩
  rw [exec_pflush h0', hflush, foldl_packBit_only]
  rfl

end Sys2Proof.Machine

/-! PROOFS, 44_bit_unpacker (R172, R173, R175): every unit of a packed sequence gives its eight bits back, the last one
those above its pad; and what UBYTE and ULAST leave in a CORE that is not halted. -/

namespace Sys2Proof.Machine

/-! ## The bits of units (R174, R175) -/

theorem length_unitBits (v : Byte) (p : Nat) : (unitBits v p).length = 8 - p := by
  rw [unitBits, List.length_map, List.length_range]

/-- A unit that holds the first bits of a sequence delivers them, as many as are not padding. -/
theorem unitBits_eq_take {v : Byte} {q : List Bool} {p : Nat} (h : HoldsBits v 8 q 0) (hlen : 8 - p ≤ q.length) :
    unitBits v p = q.take (8 - p) := by
  apply List.ext_getElem
  · rw [length_unitBits, List.length_take, min_eq_left hlen]
  · intro i hi hi'
    rw [length_unitBits] at hi
    have hbit := h i (by omega)
    rw [Nat.zero_add, List.getD_eq_getElem _ _ (by omega)] at hbit
    rw [List.getElem_take, ← hbit]
    simp only [unitBits, List.getElem_map, List.getElem_range]

theorem UnitsHold.head {v : Byte} {units : List Byte} {q : List Bool} (h : UnitsHold (v :: units) q) :
    HoldsBits v 8 q 0 :=
  h 0 (Nat.succ_pos _)

/-- The units after the first hold the bits after the first eight. -/
theorem UnitsHold.tail {v : Byte} {units : List Byte} {q : List Bool} (h : UnitsHold (v :: units) q) :
    UnitsHold units (q.drop 8) := by
  intro m hm i hi
  have hbit := h (m + 1) (Nat.succ_lt_succ hm) i hi
  rw [List.getElem_cons_succ] at hbit
  rw [hbit, List.getD_eq_getElem?_getD, List.getD_eq_getElem?_getD, List.getElem?_drop]
  congr 2
  omega

/-- Units that hold a sequence and `p` bits more give it back when the last `p` bits are dropped. -/
theorem UnitsHold.unpackStream_eq {units : List Byte} {q : List Bool} {p : Nat} (h : UnitsHold units q)
    (hlen : 8 * units.length = q.length + p) (hp : p < 8) : unpackStream units p = q := by
  induction units, p using unpackStream.induct generalizing q with
  | case1 p =>
    rw [List.length_nil] at hlen
    rw [unpackStream, List.length_eq_zero_iff.1 (by omega : q.length = 0)]
  | case2 u p =>
    rw [List.length_singleton] at hlen
    rw [unpackStream, unitBits_eq_take h.head (by omega), List.take_of_length_le (by omega)]
  | case3 u v rest p ih =>
    simp only [List.length_cons] at hlen ih
    have hrest := ih h.tail (by rw [List.length_drop]; omega) hp
    rw [unpackStream, hrest, unitBits_eq_take h.head (by omega), List.take_append_drop]

/-- One unit or more gives eight bits for each, the dropped ones apart. -/
theorem length_unpackStream_add {units : List Byte} {p : Nat} (hu : units ≠ []) (hp : p ≤ 8) :
    (unpackStream units p).length + p = 8 * units.length := by
  induction units, p using unpackStream.induct with
  | case1 p => exact absurd rfl hu
  | case2 u p =>
    rw [unpackStream, length_unitBits, List.length_singleton]
    omega
  | case3 u v rest p ih =>
    have hrest := ih (List.cons_ne_nil v rest) hp
    rw [unpackStream, List.length_append, length_unitBits, List.length_cons (a := u)]
    omega

theorem padLength_lt (len : Nat) : padLength len < 8 := Nat.mod_lt _ (by decide)

/-- Settles O49: the units that the packer appends to an empty OUTBYTE hold the sequence, and PADLEN is the number of
bits they hold past it. -/
theorem unpackInvertsPack : Obligations.UnpackInvertsPack := by
  intro s t q h0 hpn hout hflush
  obtain ⟨units, hunits, hlen, hbits⟩ := packerAppendsPack s q h0 hpn
  obtain rfl := Host.Outcome.next.inj (hflush.symm.trans hunits)
  have hpad := padLength_lt q.length
  dsimp only
  rw [hout, List.nil_append, BitVec.toNat_ofNat, Nat.mod_eq_of_lt hpad]
  refine ⟨UnitsHold.unpackStream_eq (fun m hm i hi => hbits m i hm hi) hlen hpad, fun p hp hq => ?_⟩
  have hne : units ≠ [] := by
    rintro rfl
    have hpos := List.length_pos_iff.2 hq
    rw [List.length_nil] at hlen
    omega
  rw [length_unpackStream_add hne (by omega), hlen]

/-! ## The admission check (R172, R173, 45_decoder R181) -/

section Check

variable {s : State} {nbits : Nat}

theorem unpackCheck_outbit (hu : s.udc = false) : unpackCheck nbits s = none :=
  if_neg (ne_true_of_eq_false hu)

theorem unpackCheck_noTree (hu : s.udc = true) (htv : s.tv = false) : unpackCheck nbits s = some .noTree := by
  rw [unpackCheck, if_pos hu, decCheck, htv]
  rfl

theorem unpackCheck_emptyTree (hu : s.udc = true) (htv : s.tv = true) (h0 : s.nleaves = 0) (hn : 0 < nbits) :
    unpackCheck nbits s = some .emptyTreeBit := by
  rw [unpackCheck, if_pos hu, decCheck, htv, h0, decide_eq_true hn]
  rfl

theorem unpackCheck_tree (hu : s.udc = true) (htv : s.tv = true) (h0 : s.nleaves ≠ 0) :
    unpackCheck nbits s = none := by
  rw [unpackCheck, if_pos hu]
  exact decCheck_eq_none.2 ⟨htv, fun h => absurd h h0⟩

end Check

/-! ## The pseudocode, by what the check answers (R171 to R173) -/

section Bodies

variable {s : State} {byte : Byte}

theorem ubyteBody_of_check_some {c : Cause} (h : unpackCheck 8 s = some c) : ubyteBody byte s = .raise c s := by
  rw [ubyteBody, h]

theorem ubyteBody_of_check_none (h : unpackCheck 8 s = none) :
    ubyteBody byte s = .done ((unitBits byte 0).foldl deliverBit s) 0#32 := by
  rw [ubyteBody, h]

theorem ulastBody_of_check_some {c : Cause} (h : unpackCheck (8 - s.upad.toNat) s = some c) :
    ulastBody byte s = .raise c s := by
  rw [ulastBody, h]

theorem ulastBody_outbit (hu : s.udc = false) :
    ulastBody byte s = .done { s with outbit := s.outbit ++ unitBits byte s.upad.toNat } 0#32 := by
  rw [ulastBody, unpackCheck_outbit hu, foldl_deliverBit_outbit hu]
  exact if_neg (ne_true_of_eq_false hu)

theorem ulastBody_tree (hu : s.udc = true) (htv : s.tv = true) (h0 : s.nleaves ≠ 0) :
    ulastBody byte s = decEnd ((unitBits byte s.upad.toNat).foldl decBit s) := by
  rw [ulastBody, unpackCheck_tree hu htv h0, foldl_deliverBit_udc hu]
  exact if_pos hu

end Bodies

/-! ## The end of the decoder's stream, tree by tree (45_decoder R184, R186) -/

section DecEnd

variable {s : State}

theorem foldl_decBit_of_single_leaf (h1 : s.nleaves = 1) (bits : List Bool) : bits.foldl decBit s = s := by
  induction bits with
  | nil => rfl
  | cons b bits ih => rwa [List.foldl_cons, decBit, if_pos h1]

theorem decEnd_of_single_leaf (h1 : s.nleaves = 1) :
    decEnd s =
      .done (s.emitSyms (List.replicate (s.readNode s.root).weight.toNat (BitVec.ofNat 8 s.root.val))) 0#32 := by
  rw [decEnd, if_neg (by rw [h1]; decide), if_pos h1]

theorem ne_zero_and_ne_one_of_two_le {n : Fin 257} (h2 : 2 ≤ n.val) : n ≠ 0 ∧ n ≠ 1 :=
  ⟨fun h => absurd (h ▸ h2) (by decide), fun h => absurd (h ▸ h2) (by decide)⟩

theorem decEnd_at_root (h2 : 2 ≤ s.nleaves.val) (hcur : s.cur = s.root) : decEnd s = .done s 0#32 := by
  obtain ⟨h0, h1⟩ := ne_zero_and_ne_one_of_two_le h2
  rw [decEnd, if_neg h0, if_neg h1, if_neg (not_not.2 hcur)]

theorem decEnd_off_root (h2 : 2 ≤ s.nleaves.val) (hcur : s.cur ≠ s.root) :
    decEnd s = .raise .truncatedStream s := by
  obtain ⟨h0, h1⟩ := ne_zero_and_ne_one_of_two_le h2
  rw [decEnd, if_neg h0, if_neg h1, if_pos hcur]

end DecEnd

/-! ## The commands (R172, R173) -/

/-- Settles O50: the check's two faults with nothing delivered, and past it eight DeliverBits, by CTRL.UDC. -/
theorem ubyteDeliversEightBits : Obligations.UbyteDeliversEightBits := by
  intro s byte bits h0 hbits
  replace hbits : unitBits byte 0 = bits := hbits.symm
  refine ⟨fun hu => ?_, fun hu htv => ?_, fun hu htv hl => ?_, fun hu htv hl => ?_⟩
  · rw [exec_of_cmdBody_done (i := .ubyte byte) h0 (ubyteBody_of_check_none (unpackCheck_outbit hu)), hbits,
      foldl_deliverBit_outbit hu]
    rfl
  · exact exec_of_cmdBody_raise (i := .ubyte byte) h0 (ubyteBody_of_check_some (unpackCheck_noTree hu htv))
  · exact exec_of_cmdBody_raise (i := .ubyte byte) h0
      (ubyteBody_of_check_some (unpackCheck_emptyTree hu htv hl (by decide)))
  · rw [exec_of_cmdBody_done (i := .ubyte byte) h0 (ubyteBody_of_check_none (unpackCheck_tree hu htv hl)), hbits,
      foldl_deliverBit_udc hu, foldl_decBit_only]
    rfl

/-- Settles O51: the check's two faults with nothing delivered, and past it the data bits, with UDC = 1 followed by the
decoder's end of stream on the tree at hand. -/
theorem ulastStripsPadAndEnds : Obligations.UlastStripsPadAndEnds := by
  intro s byte bits h0 hbits
  replace hbits : unitBits byte s.upad.toNat = bits := hbits.symm
  refine ⟨fun hu => ?_, fun hu htv => ?_, fun hu htv hl => ?_, fun hu htv h1 => ?_, fun hu htv h2 hcur => ?_,
    fun hu htv h2 hcur => ?_⟩
  · rw [exec_of_cmdBody_done (i := .ulast byte) h0 (ulastBody_outbit hu), hbits]
    rfl
  · exact exec_of_cmdBody_raise (i := .ulast byte) h0 (ulastBody_of_check_some (unpackCheck_noTree hu htv))
  · exact exec_of_cmdBody_raise (i := .ulast byte) h0
      (ulastBody_of_check_some (unpackCheck_emptyTree hu htv hl (upad_bits_pos s)))
  · have hbody := ulastBody_tree (byte := byte) hu htv (by rw [h1]; decide)
    rw [foldl_decBit_of_single_leaf h1, decEnd_of_single_leaf h1] at hbody
    exact exec_of_cmdBody_done (i := .ulast byte) h0 hbody
  · have hbody := ulastBody_tree (byte := byte) hu htv (ne_zero_and_ne_one_of_two_le h2).1
    rw [hbits, foldl_decBit_only, hcur] at hbody
    exact exec_of_cmdBody_done (i := .ulast byte) h0 (hbody.trans (decEnd_at_root h2 rfl))
  · have hbody := ulastBody_tree (byte := byte) hu htv (ne_zero_and_ne_one_of_two_le h2).1
    rw [hbits, foldl_decBit_only] at hbody
    exact exec_of_cmdBody_raise (i := .ulast byte) h0 (hbody.trans (decEnd_off_root h2 hcur))

end Sys2Proof.Machine

/-! PROOFS, 45_decoder (R181 to R186): what the admission check answers, where one bit moves the cursor, and what DBIT
and DEND leave in a CORE that is not halted; a tree of one leaf decodes the run that FREQ counts. -/

namespace Sys2Proof.Machine

section Decoder

variable {s : State}

/-! ## The admission check (R181) -/

theorem decCheck_noTree (nbits : Nat) (htv : s.tv = false) : decCheck nbits s = some .noTree := by
  rw [decCheck, htv]
  rfl

theorem decCheck_emptyTree {nbits : Nat} (htv : s.tv = true) (h0 : s.nleaves = 0) (hn : 0 < nbits) :
    decCheck nbits s = some .emptyTreeBit := by
  rw [decCheck, htv, h0, decide_eq_true hn]
  rfl

theorem decCheck_tree (nbits : Nat) (htv : s.tv = true) (h0 : s.nleaves ≠ 0) : decCheck nbits s = none :=
  decCheck_eq_none.2 ⟨htv, fun h => absurd h h0⟩

theorem decCheck_zero (htv : s.tv = true) : decCheck 0 s = none :=
  decCheck_eq_none.2 ⟨htv, fun _ => rfl⟩

/-! ## One bit and the end of the sequence (R183, R184) -/

theorem decBit_of_single_leaf (h1 : s.nleaves = 1) (b : Bool) : decBit s b = s := if_pos h1

theorem decBit_of_leaf_child {b : Bool} (h1 : s.nleaves ≠ 1) (hc : (childOn (s.readNode s.cur) b).val < 256) :
    decBit s b = { s with
      outsym := s.outsym ++ [BitVec.ofNat 8 (childOn (s.readNode s.cur) b).val], cur := s.root } := by
  rcases decBit_normal h1 b with ⟨-, hd⟩ | ⟨hi, -⟩
  · exact hd
  · omega

theorem decBit_of_internal_child {b : Bool} (h1 : s.nleaves ≠ 1)
    (hc : 256 ≤ (childOn (s.readNode s.cur) b).val) :
    decBit s b = { s with cur := childOn (s.readNode s.cur) b } := by
  rcases decBit_normal h1 b with ⟨hi, -⟩ | ⟨-, hd⟩
  · omega
  · exact hd

theorem decEnd_of_empty_tree (h0 : s.nleaves = 0) : decEnd s = .done s 0#32 := if_pos h0

/-! ## The commands in a CORE that is not halted (R182, R185) -/

theorem exec_dbit_of_check_some {c : Cause} (herr : s.errCause = 0#4) (b : Bool) (hc : decCheck 1 s = some c) :
    exec (.dbit b) s = .next (s.faultEntry c (Instr.dbit b).opc (Instr.dbit b).aField) :=
  exec_of_cmdBody_raise herr (by rw [cmdBody, hc])

theorem exec_dbit_of_check_none (herr : s.errCause = 0#4) (b : Bool) (hc : decCheck 1 s = none) :
    exec (.dbit b) s = .next ((decBit s b).respond statOk 0#32) :=
  exec_of_cmdBody_done herr (by rw [cmdBody, hc])

theorem cmdBody_dend_of_tree (htv : s.tv = true) : cmdBody .dend s = decEnd s := by
  rw [cmdBody, decCheck_zero htv]

theorem exec_dend_noTree (herr : s.errCause = 0#4) (htv : s.tv = false) :
    exec .dend s = .next (s.faultEntry .noTree Instr.dend.opc Instr.dend.aField) :=
  exec_of_cmdBody_raise herr (by rw [cmdBody, decCheck_noTree 0 htv])

theorem exec_dend_of_decEnd_done {s' : State} {v : BitVec 32} (herr : s.errCause = 0#4) (htv : s.tv = true)
    (hd : decEnd s = .done s' v) : exec .dend s = .next (s'.respond statOk v) :=
  exec_of_cmdBody_done herr ((cmdBody_dend_of_tree htv).trans hd)

theorem exec_dend_of_decEnd_raise {s' : State} {c : Cause} (herr : s.errCause = 0#4) (htv : s.tv = true)
    (hd : decEnd s = .raise c s') : exec .dend s = .next (s'.faultEntry c Instr.dend.opc Instr.dend.aField) :=
  exec_of_cmdBody_raise herr ((cmdBody_dend_of_tree htv).trans hd)

/-! ## The run of a tree of one leaf (R186) -/

/-- The root of a built tree of one leaf is the leaf of the present symbol and weighs what FREQ counts of it. -/
theorem State.Inv.exists_single_leaf (h : s.Inv) (htv : s.tv = true) (h1 : s.nleaves = 1) :
    ∃ sym : Symbol, Present s.freq sym ∧ BitVec.ofNat 8 s.root.val = sym ∧
      (s.readNode s.root).weight.toNat = (s.readFreq sym).toNat := by
  obtain ⟨old, hold⟩ := h.tree htv
  have hnodes : s.nodes = (buildTree s.freq old).nodes := congrArg BuiltTree.nodes hold
  have hnleaves : s.nleaves = (buildTree s.freq old).nleaves := congrArg BuiltTree.nleaves hold
  have hroot : s.root = (buildTree s.freq old).root := congrArg BuiltTree.root hold
  have hlen : (seedLive s.freq).length = 1 := by
    rw [← buildTree_nleaves_val s.freq old, ← hnleaves, h1]
    rfl
  obtain ⟨sym, hpresent, hval⟩ := buildTree_root_of_one (old := old) hlen
  have hleaf : s.root = leafIdx sym.toFin := Fin.ext (hroot ▸ hval)
  refine ⟨sym, hpresent, ((eq_ofNat_iff_eq_leafIdx (hleaf ▸ leafIdx_val_lt _)).2 hleaf).symm, ?_⟩
  rw [State.readNode, hleaf, hnodes]
  exact (buildTree_leaf s.freq old sym.toFin).1

end Decoder

theorem aField_dbit (b : Bool) : (Instr.dbit b).aField = BitVec.ofNat 8 b.toNat := by
  cases b <;> rfl

/-- Settles O52: the check's two faults, and past it DecBit on the tree at hand. -/
theorem dbitMovesCursor : Obligations.DbitMovesCursor := by
  intro s b child herr hchild
  replace hchild : childOn (s.readNode s.cur) b = child := hchild.symm
  rw [← aField_dbit]
  refine ⟨fun htv => ?noTree, fun htv h0 => ?emptyTree, fun htv h1 => ?singleLeaf, fun htv h2 hc => ?leaf,
    fun htv h2 hc => ?internal⟩
  case noTree => exact exec_dbit_of_check_some herr b (decCheck_noTree 1 htv)
  case emptyTree => exact exec_dbit_of_check_some herr b (decCheck_emptyTree htv h0 Nat.one_pos)
  case singleLeaf =>
    rw [exec_dbit_of_check_none herr b (decCheck_tree 1 htv (by rw [h1]; decide)), decBit_of_single_leaf h1]
    rfl
  case leaf =>
    obtain ⟨h0, h1⟩ := ne_zero_and_ne_one_of_two_le h2
    rw [exec_dbit_of_check_none herr b (decCheck_tree 1 htv h0), decBit_of_leaf_child h1 (hchild ▸ hc), hchild]
    rfl
  case internal =>
    obtain ⟨h0, h1⟩ := ne_zero_and_ne_one_of_two_le h2
    rw [exec_dbit_of_check_none herr b (decCheck_tree 1 htv h0), decBit_of_internal_child h1 (hchild ▸ hc), hchild]
    rfl

/-- Settles O53: the check of TV, and past it DecEnd on the tree at hand. -/
theorem dendEndsStream : Obligations.DendEndsStream := fun _ herr =>
  ⟨exec_dend_noTree herr,
    fun htv h0 => exec_dend_of_decEnd_done herr htv (decEnd_of_empty_tree h0),
    fun htv h1 => exec_dend_of_decEnd_done herr htv (decEnd_of_single_leaf h1),
    fun htv h2 hcur => exec_dend_of_decEnd_done herr htv (decEnd_at_root h2 hcur),
    fun htv h2 hcur => exec_dend_of_decEnd_raise herr htv (decEnd_off_root h2 hcur)⟩

/-- Settles O55: bits leave a tree of one leaf alone, and DecEnd emits its symbol as often as the root weighs. -/
theorem singleLeafDecodesRun : Obligations.SingleLeafDecodesRun := by
  intro s bits hinv htv h1
  obtain ⟨sym, hpresent, hsym, hweight⟩ := hinv.exists_single_leaf htv h1
  refine ⟨sym, hpresent, foldl_decBit_of_single_leaf h1 bits, ?_⟩
  rw [decEnd_of_single_leaf h1, hsym, hweight]
  rfl

end Sys2Proof.Machine

/-! PROOFS, 46_system (R201 to R204): a halted CORE refuses every command but SRST and a legal RDCSR; the view of each
CSR as the number that its fields make; and what WRCSR answers to the two legal writes and to the illegal rest. -/

namespace Sys2Proof.Machine

section SystemCommands

variable {s : State} {csr : BitVec 8} {data : BitVec 32}

/-- Every command but SRST and a legal RDCSR is refused while the CORE is halted (60_exceptions R245). -/
theorem exec_refused {i : Instr} (hhalt : s.errCause ≠ 0#4) (hr : runsHalted i s = false) :
    exec i s = .next s.refuseHalted := by
  rw [exec_eq, hr]
  exact runCommand_of_halted i _ hhalt

/-- Settles O22: NOP's pseudocode hands the state back. -/
theorem nopChangesNothing : Obligations.NopChangesNothing := fun _ =>
  ⟨fun h0 => exec_of_cmdBody_done h0 rfl, fun hhalt => exec_refused hhalt rfl⟩

/-! ## The views (R203, 10_state R34 to R39) -/

/-- Fields side by side, as a number: the upper one counts from the lower one's width up. -/
theorem toNat_append_eq_add {m n : Nat} (x : BitVec m) (y : BitVec n) :
    (x ++ y).toNat = 2 ^ n * x.toNat + y.toNat := by
  rw [BitVec.toNat_append, ← Nat.shiftLeft_add_eq_or_of_lt y.isLt, Nat.shiftLeft_eq, Nat.mul_comm]

/-- The CTRL view (R35). -/
theorem ctrlView_eq_ofNat (s : State) : s.ctrlView = BitVec.ofNat 32 (s.epk.toNat + 2 * s.udc.toNat) := by
  rw [State.ctrlView, ← BitVec.ofNat_toNat, toNat_append_eq_add, BitVec.toNat_ofBool, BitVec.toNat_ofBool]
  congr 1
  omega

/-- The STATUS view (R38). -/
theorem statusView_eq_ofNat (s : State) :
    s.statusView = BitVec.ofNat 32
      (s.tv.toNat + 2 * s.cv.toNat + 4 * (s.errCause != 0#4).toNat + 16 * s.pn.toNat) := by
  rw [State.statusView, ← BitVec.ofNat_toNat]
  simp only [toNat_append_eq_add, BitVec.toNat_ofBool, BitVec.toNat_ofNat, State.halted]
  congr 1
  omega

/-- The ERR view (R37). -/
theorem errView_eq_ofNat (s : State) :
    s.errView = BitVec.ofNat 32 (s.errCause.toNat + 256 * s.errInfo.toNat + 65536 * s.errOpc.toNat) := by
  rw [State.errView, ← BitVec.setWidth_eq (_ ++ s.errCause), ← BitVec.ofNat_toNat]
  simp only [toNat_append_eq_add, BitVec.toNat_ofNat]
  congr 1
  omega

/-- TOTAL is the weight of the root of a tree that has a leaf, else 0 (R39). -/
theorem toNat_total (s : State) :
    s.total.toNat = if s.tv = true ∧ s.nleaves ≠ 0 then (s.readNode s.root).weight.toNat else 0 := by
  rw [State.total, apply_ite BitVec.toNat]
  simp

/-- TOTLO (R39). -/
theorem totalLow_eq_ofNat (s : State) :
    s.total.extractLsb' 0 32 = BitVec.ofNat 32
      (if s.tv = true ∧ s.nleaves ≠ 0 then (s.readNode s.root).weight.toNat % 2 ^ 32 else 0) := by
  rw [BitVec.extractLsb', toNat_total]
  split
  · exact BitVec.eq_of_toNat_eq (Nat.mod_mod _ _).symm
  · rfl

/-- TOTHI (R39). -/
theorem totalHigh_eq_ofNat (s : State) :
    (s.total.extractLsb' 32 8).setWidth 32 = BitVec.ofNat 32
      (if s.tv = true ∧ s.nleaves ≠ 0 then (s.readNode s.root).weight.toNat / 2 ^ 32 else 0) := by
  rw [← BitVec.ofNat_toNat, BitVec.extractLsb'_toNat, toNat_total]
  split
  · have := (s.readNode s.root).weight.isLt
    rw [Nat.shiftRight_eq_div_pow, Nat.mod_eq_of_lt (by omega)]
  · rfl

/-- A number above 9 names no CSR (R34). -/
theorem csrView_eq_none (h : 0x09 < csr.toNat) : s.csrView csr = none := by
  obtain ⟨k, hk⟩ := Nat.exists_eq_add_of_le' h
  rw [State.csrView, hk]
  rfl

theorem exec_rdcsr_of_none (h0 : s.errCause = 0#4) (hview : s.csrView csr = none) :
    exec (.rdcsr csr) s = .next (s.faultEntry .illegalCommand 0x02#8 csr) :=
  exec_of_cmdBody_raise (i := .rdcsr csr) h0 (by rw [cmdBody, hview])

/-- Settles O23: a legal RDCSR never meets the halted state, and each view is the number of its fields; an illegal one
is a fault of its own, or refused. -/
theorem rdcsrAnswersViews : Obligations.RdcsrAnswersViews := by
  intro s
  constructor
  · simp only [List.forall_mem_cons]
    exact ⟨exec_rdcsr (congrArg some (ctrlView_eq_ofNat s)), exec_rdcsr (congrArg some (statusView_eq_ofNat s)),
      exec_rdcsr (congrArg some (errView_eq_ofNat s)), exec_rdcsr rfl, exec_rdcsr rfl,
      exec_rdcsr (congrArg some (totalLow_eq_ofNat s)), exec_rdcsr (congrArg some (totalHigh_eq_ofNat s)),
      exec_rdcsr (congrArg some (BitVec.ofNat_toNat _ _).symm),
      exec_rdcsr (congrArg some (BitVec.ofNat_toNat _ _).symm), exec_rdcsr rfl, List.forall_mem_nil _⟩
  · intro csr hcsr
    have hview : s.csrView csr = none := csrView_eq_none hcsr
    exact ⟨fun h0 => exec_rdcsr_of_none h0 hview, fun hhalt => exec_refused hhalt (by rw [runsHalted, hview]; rfl)⟩

/-! ## The writable registers (R204) -/

theorem csrWrite_ctrl (hd : data.toNat ≤ 3) :
    s.csrWrite 0x00#8 data =
      some { s with epk := decide (data.toNat % 2 = 1), udc := decide (data.toNat / 2 = 1) } := by
  have hepk : data.getLsbD 0 = decide (data.toNat % 2 = 1) := by
    rw [← BitVec.testBit_toNat, Nat.testBit_zero]
  have hudc : data.getLsbD 1 = decide (data.toNat / 2 = 1) := by
    rw [← BitVec.testBit_toNat, Nat.testBit_succ, Nat.testBit_zero, Nat.mod_eq_of_lt (by omega)]
  rw [State.csrWrite, if_pos rfl, if_pos hd, hepk, hudc]

theorem csrWrite_upad (hd : data.toNat ≤ 7) :
    s.csrWrite 0x08#8 data = some { s with upad := BitVec.ofNat 3 data.toNat } := by
  rw [State.csrWrite, if_neg (by decide), if_pos rfl, if_pos hd]
  rfl

/-- Any other CSR, and data outside the range of the two (30_encoding R91). -/
theorem csrWrite_illegal (hctrl : ¬ (csr = 0x00#8 ∧ data.toNat ≤ 3))
    (hupad : ¬ (csr = 0x08#8 ∧ data.toNat ≤ 7)) :
    s.csrWrite csr data = none := by
  unfold State.csrWrite
  split
  · next hc => exact if_neg fun hd => hctrl ⟨hc, hd⟩
  · split
    · next hc => exact if_neg fun hd => hupad ⟨hc, hd⟩
    · rfl

theorem exec_wrcsr_of_some {s' : State} (h0 : s.errCause = 0#4) (hw : s.csrWrite csr data = some s') :
    exec (.wrcsr csr data) s = .next (s'.respond statOk 0#32) :=
  exec_of_cmdBody_done h0 (by rw [cmdBody, hw])

theorem exec_wrcsr_of_none (h0 : s.errCause = 0#4) (hw : s.csrWrite csr data = none) :
    exec (.wrcsr csr data) s = .next (s.faultEntry .illegalCommand 0x03#8 csr) :=
  exec_of_cmdBody_raise (i := .wrcsr csr data) h0 (by rw [cmdBody, hw])

end SystemCommands

/-- Settles O24: refused while halted, else what the write of the register comes to. -/
theorem wrcsrWritesControl : Obligations.WrcsrWritesControl := by
  intro s csr data
  refine ⟨fun hhalt => exec_refused hhalt rfl, ?ctrl, ?upad,
    fun h0 hctrl hupad => exec_wrcsr_of_none h0 (csrWrite_illegal hctrl hupad)⟩
  case ctrl =>
    rintro h0 rfl hd
    exact exec_wrcsr_of_some h0 (csrWrite_ctrl hd)
  case upad =>
    rintro h0 rfl hd
    exact exec_wrcsr_of_some h0 (csrWrite_upad hd)

end Sys2Proof.Machine

/-! PROOFS, 48_composition, decoding (R225): the decoder fed the path to a leaf emits the leaf's symbol and is back at
the root, so by induction it gives back every sequence whose codes it is fed. -/

namespace Sys2Proof.Machine

/-! ## The decoder fed paths (R225) -/

section Paths

variable {s : State}

/-- The path from an internal cursor to a leaf emits the leaf's symbol and puts the cursor back on the root. -/
theorem foldl_decBit_of_reaches_leaf {sym : Symbol} {path : List Bool} (h1 : s.nleaves ≠ 1) (hcur : 256 ≤ s.cur.val)
    (hr : Reaches s.nodes s.cur path (leafIdx sym.toFin)) :
    path.foldl decBit s = { s with outsym := s.outsym ++ [sym], cur := s.root } := by
  induction path generalizing s with
  | nil =>
    rw [reaches_nil.1 hr] at hcur
    exact absurd hcur (not_le.2 (leafIdx_val_lt _))
  | cons b path ih =>
    obtain ⟨-, hr⟩ := reaches_cons.1 hr
    rw [List.foldl_cons]
    by_cases hc : (childOn (s.readNode s.cur) b).val < 256
    · obtain ⟨rfl, hleaf⟩ := (reaches_of_lt hc).1 hr
      rw [decBit_of_leaf_child h1 hc, ← (eq_ofNat_iff_eq_leafIdx hc).2 hleaf, List.foldl_nil]
    · rw [decBit_of_internal_child h1 (not_lt.1 hc)]
      exact ih (s := { s with cur := childOn (s.readNode s.cur) b }) h1 (not_lt.1 hc) hr

/-- The paths from the root to the leaves of a sequence, one after another, emit the sequence (R225's induction). -/
theorem foldl_decBit_flatMap {S : List Symbol} {code : Symbol → List Bool} (h1 : s.nleaves ≠ 1)
    (hroot : 256 ≤ s.root.val) (hcur : s.cur = s.root)
    (hcode : ∀ sym ∈ S, Reaches s.nodes s.root (code sym) (leafIdx sym.toFin)) :
    (S.flatMap code).foldl decBit s = { s with outsym := s.outsym ++ S } := by
  induction S generalizing s with
  | nil => simp
  | cons sym S ih =>
    obtain ⟨hsym, hrest⟩ := List.forall_mem_cons.1 hcode
    have hone : (code sym).foldl decBit s = s.emitSyms [sym] := by
      rw [foldl_decBit_of_reaches_leaf h1 (hcur ▸ hroot) (hcur ▸ hsym), State.emitSyms, hcur]
    rw [List.flatMap_cons, List.foldl_append, hone, ih (s := s.emitSyms [sym]) h1 hroot hcur hrest]
    simp [State.emitSyms]

end Paths

/-- Settles O54: the codes are the paths from ROOT to the leaves of their symbols, which the decoder follows. -/
theorem decodeInvertsEncode : Obligations.DecodeInvertsEncode := by
  intro s S hinv hcv h2 hcur hS
  have hroot := ((hinv.cursor (hinv.codesNeedTree hcv)).2 h2).1
  have hbits : (s.encodeBits S).foldl decBit s = { s with outsym := s.outsym ++ S } :=
    foldl_decBit_flatMap (ne_zero_and_ne_one_of_two_le h2).2 (hcur ▸ hroot) hcur
      fun sym hsym => hinv.reaches_readCode hcv h2 (hS sym hsym)
  rw [hbits]
  exact ⟨rfl, decEnd_at_root h2 hcur⟩

end Sys2Proof.Machine

/-! PROOFS, 48_composition, runs of commands (R220, R226): a session is runs of like commands between single ones, and
what a run leaves is said once, responses apart. BUILD and GEN leave a tree and its codes, empty ones on empty input. -/

namespace Sys2Proof.Machine

/-! ## Responses apart -/

/-- The state with other responses. -/
def State.withRsp (s : State) (rsp : List RspWord) : State := { s with rsp := rsp }

theorem respond_eq_withRsp (s : State) (stat : BitVec 4) (rdata : BitVec 32) :
    s.respond stat rdata = s.withRsp (s.rsp ++ [rspWord stat rdata]) := rfl

@[simp] theorem withRsp_withRsp (s : State) (rsp rsp' : List RspWord) : (s.withRsp rsp).withRsp rsp' = s.withRsp rsp' :=
  rfl

section Commutes

variable (s : State) (rsp : List RspWord)

theorem decBit_withRsp (b : Bool) : decBit (s.withRsp rsp) b = (decBit s b).withRsp rsp := by
  rw [decBit, decBit, apply_ite (State.withRsp · rsp)]
  refine ite_congr rfl (fun _ => rfl) fun _ => ?_
  dsimp only
  rw [apply_ite (State.withRsp · rsp)]
  rfl

theorem packBit_withRsp (b : Bool) : packBit (s.withRsp rsp) b = (packBit s b).withRsp rsp := by
  rw [packBit, packBit, apply_ite (State.withRsp · rsp)]
  rfl

theorem emitCodeBit_withRsp (b : Bool) : emitCodeBit (s.withRsp rsp) b = (emitCodeBit s b).withRsp rsp := by
  rw [emitCodeBit, emitCodeBit, apply_ite (State.withRsp · rsp)]
  exact ite_congr rfl (fun _ => packBit_withRsp s rsp b) fun _ => rfl

/-- What leaves the responses alone bit by bit does so over a bit sequence. -/
theorem foldl_withRsp {f : State → Bool → State} (hf : ∀ s rsp b, f (s.withRsp rsp) b = (f s b).withRsp rsp)
    (bits : List Bool) : bits.foldl f (s.withRsp rsp) = (bits.foldl f s).withRsp rsp :=
  List.foldl_hom (State.withRsp · rsp) fun s => hf s rsp

end Commutes

/-- A run of like commands `i a`, each of which acts as `f · a` where `P` holds and leaves `P`, acts as `f` folded over
the operands. -/
theorem runAll_map {α : Type} {l : List α} {i : α → Instr} {f : State → α → State} {P : State → Prop}
    (hexec : ∀ s, P s → ∀ a ∈ l, ∃ v, exec (i a) s = .next ((f s a).respond statOk v))
    (hP : ∀ s a rsp, P s → P ((f s a).withRsp rsp))
    (hf : ∀ s a rsp, f (s.withRsp rsp) a = (f s a).withRsp rsp) {s : State} (hs : P s) :
    ∃ rsp, runAll (l.map i) s = some ((l.foldl f s).withRsp rsp) := by
  induction l generalizing s with
  | nil => exact ⟨s.rsp, rfl⟩
  | cons a l ih =>
    obtain ⟨v, ha⟩ := hexec s hs a List.mem_cons_self
    obtain ⟨rsp, hl⟩ := ih (fun s hs a ha => hexec s hs a (List.mem_cons_of_mem _ ha)) (hP s a _ hs)
    refine ⟨rsp, ?_⟩
    rw [List.map_cons, runAll_cons_of_next ha, respond_eq_withRsp, hl,
      List.foldl_hom (State.withRsp · _) (g₁ := f) fun s a => hf s a _, withRsp_withRsp, List.foldl_cons]

/-! ## Counting, the tree and the codes (R220) -/

/-- BUILD and GEN leave the tree of the state's table and the code tables given, with the cursor on the root. -/
def State.coded (s : State) (tables : CodeTables) : State :=
  ((s.writeTree (buildTree s.freq s.nodes)).treePublished.writeCodes tables).codesPublished

theorem exec_build_of_running {s : State} (h0 : s.errCause = 0#4) :
    exec .build s = .next ((s.writeTree (buildTree s.freq s.nodes)).treePublished.respond statOk 0#32) :=
  exec_of_cmdBody_done h0 rfl

theorem exec_gen_of_genCodes {s : State} {tables : CodeTables} (h0 : s.errCause = 0#4) (htv : s.tv = true)
    (hg : genCodes s.tree = some tables) :
    exec .gen s = .next ((s.writeCodes tables).codesPublished.respond statOk 0#32) :=
  exec_of_cmdBody_done h0 (by rw [cmdBody, genBody, if_pos htv, hg])

theorem runAll_build_gen {s : State} {tables : CodeTables} (h0 : s.errCause = 0#4)
    (hg : genCodes (buildTree s.freq s.nodes) = some tables) :
    runAll [.build, .gen] s = some ((s.coded tables).withRsp (s.rsp ++ List.replicate 2 (rspWord statOk 0#32))) := by
  rw [runAll_cons_of_next (exec_build_of_running h0),
    runAll_cons_of_next (exec_gen_of_genCodes (by exact h0) rfl (by exact hg)), runAll_nil]
  simp [State.respond, State.withRsp, State.coded, State.writeCodes]

/-! ## Empty input (R226) -/

theorem nleaves_buildTree_of_empty {freq : Vector Count 256} (old : Vector Node 511)
    (h : ∀ sym, ¬ Present freq sym) : (buildTree freq old).nleaves = 0 := by
  have hnone : seedLive freq = [] := by
    refine List.eq_nil_iff_forall_not_mem.2 fun i hi => ?_
    obtain ⟨sym, -, hsym⟩ := mem_seedLive_iff_present.1 hi
    exact h sym hsym
  rw [buildTree_nleaves, hnone]
  rfl

/-- The empty tree has the empty code table (42_code_generator R141). -/
theorem genCodes_of_empty {t : BuiltTree} (h : t.nleaves = 0) : genCodes t = some .blank :=
  if_pos h

theorem exec_pflush_of_empty {s : State} (h0 : s.errCause = 0#4) (hpn : s.pn = 0#3) :
    exec .pflush s = .next ({ s with padlen := 0#3, pacc := 0#8, pn := 0#3 }.respond statOk 0#32) := by
  rw [exec_pflush h0, flushed_of_pn_eq_zero (congrArg BitVec.toNat hpn)]

/-- Settles O58: BUILD makes the empty tree, so GEN makes the empty code table and DEND ends an empty stream; PFLUSH
finds an empty packer. -/
theorem emptyInputGivesEmptyOutput : Obligations.EmptyInputGivesEmptyOutput := by
  intro s h0 hfreq hpn
  have hleaves := nleaves_buildTree_of_empty s.nodes fun sym hsym => hsym (hfreq sym)
  have hblank := CodeTables.holds_blank
  have hcoded := runAll_build_gen h0 (genCodes_of_empty hleaves)
  refine ⟨?t, ?run, ?left⟩
  case run =>
    rw [show [Instr.build, .gen, .pflush, .dend] = [.build, .gen] ++ [.pflush, .dend] from rfl,
      runAll_append_of_some hcoded, runAll_cons_of_next (exec_pflush_of_empty (by exact h0) (by exact hpn)),
      runAll_cons_of_next (exec_dend_of_decEnd_done (by exact h0) rfl (decEnd_of_empty_tree (by exact hleaves))),
      runAll_nil]
  case left =>
    refine ⟨hleaves, fun sym => ⟨hfreq sym, (hblank sym).2, readCode_of_holds (hblank sym) (by simp)⟩,
      rfl, rfl, rfl, rfl, ?_⟩
    simp [State.withRsp, statOk]

end Sys2Proof.Machine

/-! PROOFS, 48_composition, the bits of a sequence (R223): the codes that one CORE has for a sequence are decoded to it
by every CORE that holds the same tally, because trees of equal tables have equal paths (41_tree_builder R127). -/

namespace Sys2Proof.Machine

/-! ## Equal tables give equal paths (41_tree_builder R127) -/

/-- A path in one BUILD's tree leads to the same node in every other BUILD's tree of the same table. -/
theorem Reaches.of_buildTree {freq : Vector Count 256} {old : Vector Node 511} {i j : NodeIdx} {bits : List Bool}
    (hr : Reaches (buildTree freq old).nodes i bits j) (h : 1 ≤ (seedLive freq).length)
    (hi : InTree freq (buildTree freq old) i) (old' : Vector Node 511) :
    Reaches (buildTree freq old').nodes i bits j := by
  induction bits generalizing i with
  | nil => exact reaches_nil.2 (reaches_nil.1 hr)
  | cons b bits ih =>
    obtain ⟨hint, hr⟩ := reaches_cons.1 hr
    have hchild := inTree_of_reaches (bits := [b]) h hi ⟨hint, rfl⟩
    have hnode := agreeBelow_buildTree freq old old' i (inTree_buildTree.1 hi).lt
    exact reaches_cons.2 ⟨hint, hnode ▸ ih hr hchild⟩

/-! ## A CORE that can decode a sequence, and one that can encode it too -/

/-- No fault is pending, FREQ is the tally of `S`, the tree is a BUILD's and the cursor is on its root. -/
structure State.ReadyFor (s : State) (S : List Symbol) : Prop where
  noFault : s.errCause = 0#4
  tally : ∀ sym, (s.readFreq sym).toNat = S.count sym
  tv : s.tv = true
  tree : ∃ old, s.tree = buildTree s.freq old
  atRoot : s.cur = s.root

/-- CLEN and CODE are GEN's as well. -/
structure State.CodedFor (s : State) (S : List Symbol) : Prop extends s.ReadyFor S where
  cv : s.cv = true
  codes : genCodes s.tree = some s.codes

section Ready

variable {s t d : State} {S : List Symbol} {sym : Symbol}

theorem State.ReadyFor.withRsp (h : s.ReadyFor S) (rsp : List RspWord) : (s.withRsp rsp).ReadyFor S :=
  ⟨h.noFault, h.tally, h.tv, h.tree, h.atRoot⟩

theorem State.ReadyFor.withUpad (h : s.ReadyFor S) (upad : BitVec 3) : { s with upad := upad }.ReadyFor S :=
  ⟨h.noFault, h.tally, h.tv, h.tree, h.atRoot⟩

theorem State.CodedFor.withRsp (h : s.CodedFor S) (rsp : List RspWord) : (s.withRsp rsp).CodedFor S :=
  ⟨h.toReadyFor.withRsp rsp, h.cv, h.codes⟩

/-- What the encoder and the packer write is not what codes are made of. -/
theorem State.CodedFor.withPacker (h : s.CodedFor S) (pacc : BitVec 8) (pn padlen : BitVec 3) (outbyte : List Byte)
    (outbit : List Bool) :
    { s with pacc := pacc, pn := pn, padlen := padlen, outbyte := outbyte, outbit := outbit }.CodedFor S :=
  ⟨⟨h.noFault, h.tally, h.tv, h.tree, h.atRoot⟩, h.cv, h.codes⟩

theorem State.ReadyFor.present_iff (h : s.ReadyFor S) : Present s.freq sym ↔ sym ∈ S := by
  rw [← List.count_pos_iff, ← h.tally, Nat.pos_iff_ne_zero]
  exact not_congr BitVec.toNat_inj.symm

theorem State.ReadyFor.freq_eq (h : s.ReadyFor S) (hd : d.ReadyFor S) : s.freq = d.freq :=
  freq_eq_of_readFreq fun sym => (h.tally sym).trans (hd.tally sym).symm

theorem State.ReadyFor.nleaves_val (h : s.ReadyFor S) : s.nleaves.val = (seedLive s.freq).length := by
  obtain ⟨old, hold⟩ := h.tree
  rw [← buildTree_nleaves_val s.freq old, ← hold]
  rfl

theorem State.ReadyFor.root_ge (h : s.ReadyFor S) (h2 : 2 ≤ s.nleaves.val) : 256 ≤ s.root.val := by
  obtain ⟨old, hold⟩ := h.tree
  have hroot := buildTree_root_val (old := old) (h.nleaves_val ▸ h2)
  rw [← hold] at hroot
  exact hroot.ge.trans' (Nat.le_add_right _ _)

theorem State.ReadyFor.eq_nil_of_empty_tree (h : s.ReadyFor S) (h0 : s.nleaves = 0) : S = [] := by
  refine List.eq_nil_iff_forall_not_mem.2 fun sym hsym => ?_
  have hpos := List.length_pos_of_mem (mem_seedLive_iff_present.2 ⟨sym, rfl, h.present_iff.2 hsym⟩ :
    leafIdx sym.toFin ∈ seedLive s.freq)
  rw [← h.nleaves_val, h0] at hpos
  exact absurd hpos (by decide)

/-- A sequence whose tree has one leaf is a run of that leaf's symbol. -/
theorem State.ReadyFor.eq_replicate (h : s.ReadyFor S) (h1 : s.nleaves = 1) (hsym : Present s.freq sym) :
    S = List.replicate (s.readFreq sym).toNat sym := by
  have hall : ∀ a ∈ S, a = sym := by
    intro a ha
    by_contra hne
    have h2 : 2 ≤ s.nleaves.val := two_le_nleaves h.tree (h.present_iff.2 ha) hsym hne
    exact (ne_zero_and_ne_one_of_two_le h2).2 h1
  rw [h.tally, List.count_eq_length.2 fun a ha => (hall a ha).symm]
  exact List.eq_replicate_of_mem hall

/-- The decoder sees the tree and the cursor only, so the invariant may be had with an empty packer and no codes. -/
theorem State.ReadyFor.inv (h : s.ReadyFor S) : { s with pacc := 0#8, cv := false }.Inv where
  tree _ := h.tree
  codes hcv := by cases hcv
  codesNeedTree hcv := by cases hcv
  cursor _ := ⟨fun _ => h.atRoot, fun h2 => ⟨h.atRoot ▸ h.root_ge h2, h.atRoot.le⟩⟩
  packer := Nat.two_pow_pos _
  cause := by simp [h.noFault]

/-- The bits of a sequence's paths, fed to the decoder and ended, append the sequence: the empty tree has no symbol, a
tree of one leaf decodes the run that it counts, and in any other tree the paths are followed (R223). -/
theorem State.ReadyFor.decEnd_foldl (h : s.ReadyFor S) {code : Symbol → List Bool}
    (hcode : 2 ≤ s.nleaves.val → ∀ sym ∈ S, Reaches s.nodes s.root (code sym) (leafIdx sym.toFin)) :
    decEnd ((S.flatMap code).foldl decBit s) = .done { s with outsym := s.outsym ++ S } 0#32 := by
  by_cases h0 : s.nleaves = 0
  · obtain rfl := h.eq_nil_of_empty_tree h0
    simpa using decEnd_of_empty_tree h0
  by_cases h1 : s.nleaves = 1
  · obtain ⟨sym, hpresent, hsym, hweight⟩ := h.inv.exists_single_leaf h.tv h1
    have hrun := h.eq_replicate h1 hpresent
    rw [foldl_decBit_of_single_leaf h1, decEnd_of_single_leaf h1, hsym, State.emitSyms, hrun]
    exact congrArg (fun n => CmdResult.done { s with outsym := s.outsym ++ List.replicate n sym } 0#32) hweight
  · have h2 : 2 ≤ s.nleaves.val := by omega
    rw [foldl_decBit_flatMap h1 (h.root_ge h2) h.atRoot (hcode h2)]
    exact decEnd_at_root h2 h.atRoot

/-! ## The codes of a sequence (R223) -/

theorem State.CodedFor.readClen_ne_zero (h : s.CodedFor S) (hsym : sym ∈ S) : s.readClen sym ≠ 0#8 := by
  obtain ⟨old, hold⟩ := h.tree
  obtain ⟨path, hne, hlen, hholds⟩ := exists_holds_of_present (hold ▸ h.codes) (h.present_iff.2 hsym)
  have hclen : s.readClen sym = BitVec.ofNat 8 path.length := hholds.2
  have hpos := List.length_pos_iff.2 hne
  intro h0
  have hmod := congrArg BitVec.toNat (hclen.symm.trans h0)
  rw [BitVec.toNat_ofNat, Nat.mod_eq_of_lt (by omega)] at hmod
  exact hpos.ne' hmod

/-- The codes of one CORE are paths in the tree of every CORE with the same tally. -/
theorem State.CodedFor.reaches_readCode (h : s.CodedFor S) (hd : d.ReadyFor S) (h2 : 2 ≤ d.nleaves.val)
    (hsym : sym ∈ S) : Reaches d.nodes d.root (s.readCode sym) (leafIdx sym.toFin) := by
  have hfreq := h.freq_eq hd
  rw [hd.nleaves_val, ← hfreq] at h2
  obtain ⟨path, hpath, hlen, hholds⟩ :=
    exists_path_of_present h.tree h.codes (by exact h.nleaves_val ▸ h2) (h.present_iff.2 hsym)
  obtain ⟨old, hold⟩ := h.tree
  obtain ⟨old', hold'⟩ := hd.tree
  rw [hold] at hpath
  have h1 : 1 ≤ (seedLive s.freq).length := by omega
  have hreach := hpath.of_buildTree h1 (inTree_root h1) old'
  rw [← hfreq] at hold'
  rw [readCode_of_holds hholds hlen]
  exact show Reaches d.tree.nodes d.tree.root _ _ from hold' ▸ hreach

/-- R223 over the micro-operations: one CORE's codes of a sequence, decoded by any CORE with the same tally. -/
theorem State.CodedFor.decEnd_encodeBits (h : s.CodedFor S) (hd : d.ReadyFor S) :
    decEnd ((s.encodeBits S).foldl decBit d) = .done { d with outsym := d.outsym ++ S } 0#32 :=
  hd.decEnd_foldl fun h2 _ hsym => h.reaches_readCode hd h2 hsym

end Ready

end Sys2Proof.Machine

/-! PROOFS, 48_composition, the round-trip on bits (R223): COUNTs, BUILD, GEN and ENCs of a sequence emit its codes, and
DBITs of the codes and DEND append the sequence. -/

namespace Sys2Proof.Machine

section Sessions

variable {s t d : State} {S : List Symbol}

/-! ## Encoding (R220) -/

/-- COUNTs that end without fault have written FREQ, the flags and responses and nothing else. -/
theorem countAll_frame (h0 : s.errCause = 0#4) (h : countAll S s = some t) (hok : t.errCause = 0#4) :
    ∃ freq tv cv rsp, t = { s with freq := freq, tv := tv, cv := cv, rsp := rsp } := by
  induction S generalizing s with
  | nil => exact ⟨s.freq, s.tv, s.cv, s.rsp, (Option.some.inj h).symm⟩
  | cons a S ih =>
    by_cases hfull : (s.readFreq a).toNat = 2 ^ 32 - 1
    · rw [countAll, exec_count_of_full h0 hfull] at h
      have hhalt := Cause.countOverflow.code_ne_zero
      exact absurd ((countAll_errCause_of_halted hhalt h).symm.trans hok) hhalt
    · rw [countAll, exec_count_of_lt h0 (readFreq_lt_of_ne hfull)] at h
      exact ih (s := (s.writeFreq a (s.readFreq a + 1#32)).invalidate.respond statOk 0#32) h0 h

theorem exec_enc_of_code {sym : Symbol} (h0 : s.errCause = 0#4) (hcv : s.cv = true) (hclen : s.readClen sym ≠ 0#8) :
    exec (.enc sym) s = .next (((s.readCode sym).foldl emitCodeBit s).respond statOk 0#32) :=
  exec_of_cmdBody_done h0 (encBody_of_code hcv hclen)

theorem readClen_of_codes_eq (h : s.codes = t.codes) : s.readClen = t.readClen := by
  funext sym
  rw [State.readClen, State.readClen, show s.clen = t.clen from congrArg CodeTables.clen h]

theorem readCode_of_codes_eq (h : s.codes = t.codes) : s.readCode = t.readCode := by
  funext sym
  rw [State.readCode, State.readCode, readClen_of_codes_eq h, show s.code = t.code from congrArg CodeTables.code h]

/-- The ENCs of a sequence emit its codes, because none of them writes the code tables. -/
theorem State.CodedFor.runAll_encs (h : s.CodedFor S) :
    ∃ rsp, runAll (S.map .enc) s = some (((s.encodeBits S).foldl emitCodeBit s).withRsp rsp) := by
  rw [State.encodeBits, List.foldl_flatMap]
  refine runAll_map (P := fun u => u.errCause = 0#4 ∧ u.cv = true ∧ u.codes = s.codes) ?exec ?keeps
    (fun u sym rsp => foldl_withRsp u rsp emitCodeBit_withRsp (s.readCode sym)) ⟨h.noFault, h.cv, rfl⟩
  case exec =>
    rintro u ⟨hu0, hcv, hcodes⟩ sym hsym
    rw [← readCode_of_codes_eq hcodes]
    exact ⟨_, exec_enc_of_code hu0 hcv (readClen_of_codes_eq hcodes ▸ h.readClen_ne_zero hsym)⟩
  case keeps =>
    rintro u sym rsp hu
    obtain ⟨pacc, pn, outbyte, outbit, hfold⟩ := foldl_emitCodeBit_only (s.readCode sym) u
    rw [hfold]
    exact hu

/-- `t` has the packer's PN, the routing and the data streams of `s`. -/
structure SamePaths (s t : State) : Prop where
  pn : t.pn = s.pn
  epk : t.epk = s.epk
  udc : t.udc = s.udc
  outbyte : t.outbyte = s.outbyte
  outsym : t.outsym = s.outsym
  outbit : t.outbit = s.outbit

/-- A sequence that overfills no counter, counted from the empty table and encoded. -/
theorem exists_runAll_countAndEncode (h0 : s.errCause = 0#4) (hfreq : ∀ sym, s.readFreq sym = 0#32)
    (hle : ∀ sym, S.count sym ≤ 2 ^ 32 - 1) :
    ∃ g rsp, SamePaths s g ∧ g.CodedFor S ∧
      runAll (countAndEncode S) s = some (((g.encodeBits S).foldl emitCodeBit g).withRsp rsp) := by
  have hzero : ∀ sym, (s.readFreq sym).toNat = 0 := fun sym => congrArg BitVec.toNat (hfreq sym)
  obtain ⟨c, hcount, hc0, htally⟩ := countAll_tally S s h0 fun sym => by rw [hzero, Nat.zero_add]; exact hle sym
  obtain ⟨freq, tv, cv, rsp, rfl⟩ := countAll_frame h0 hcount hc0
  obtain ⟨tables, hg⟩ := exists_genCodes_buildTree freq s.nodes
  have hcoded : ({ s with freq := freq }.coded tables).CodedFor S :=
    ⟨⟨h0, fun sym => (htally sym).trans (by rw [hzero, Nat.zero_add]), rfl, ⟨s.nodes, rfl⟩, rfl⟩, rfl, hg⟩
  have hbuild := runAll_build_gen hc0 hg
  rw [countAll_eq_runAll] at hcount
  obtain ⟨rsp', henc⟩ := (hcoded.withRsp (rsp ++ List.replicate 2 (rspWord statOk 0#32))).runAll_encs
  have hsame : SamePaths s ({ s with freq := freq }.coded tables) := ⟨rfl, rfl, rfl, rfl, rfl, rfl⟩
  refine ⟨_, rsp', hsame, hcoded, ?_⟩
  rw [countAndEncode, List.append_assoc, runAll_append_of_some hcount, runAll_append_of_some hbuild]
  rw [foldl_withRsp _ _ emitCodeBit_withRsp, withRsp_withRsp] at henc
  exact henc

/-! ## Decoding bits (R223) -/

@[simp] theorem foldl_decBit_errCause (bits : List Bool) : (bits.foldl decBit s).errCause = s.errCause := by
  rw [foldl_decBit_only]

@[simp] theorem foldl_decBit_tv (bits : List Bool) : (bits.foldl decBit s).tv = s.tv := by
  rw [foldl_decBit_only]

@[simp] theorem foldl_decBit_udc (bits : List Bool) : (bits.foldl decBit s).udc = s.udc := by
  rw [foldl_decBit_only]

@[simp] theorem foldl_decBit_upad (bits : List Bool) : (bits.foldl decBit s).upad = s.upad := by
  rw [foldl_decBit_only]

@[simp] theorem foldl_decBit_nleaves (bits : List Bool) : (bits.foldl decBit s).nleaves = s.nleaves := by
  rw [foldl_decBit_only]

/-- The CORE admits bits to the decoder, from DBIT and from the unpacker (45_decoder R181). -/
structure State.TakesBits (s : State) : Prop where
  noFault : s.errCause = 0#4
  tv : s.tv = true
  udc : s.udc = true
  nonempty : s.nleaves ≠ 0

theorem State.TakesBits.withRsp (h : s.TakesBits) (rsp : List RspWord) : (s.withRsp rsp).TakesBits :=
  ⟨h.noFault, h.tv, h.udc, h.nonempty⟩

theorem State.TakesBits.foldl_decBit (h : s.TakesBits) (bits : List Bool) : (bits.foldl decBit s).TakesBits where
  noFault := by simpa using h.noFault
  tv := by simpa using h.tv
  udc := by simpa using h.udc
  nonempty := by simpa using h.nonempty

theorem State.ReadyFor.takesBits (h : s.ReadyFor S) (hu : s.udc = true) (hS : S ≠ []) : s.TakesBits :=
  ⟨h.noFault, h.tv, hu, fun h0 => hS (h.eq_nil_of_empty_tree h0)⟩

theorem State.TakesBits.runAll_dbits (h : s.TakesBits) (bits : List Bool) :
    ∃ rsp, runAll (bits.map .dbit) s = some ((bits.foldl decBit s).withRsp rsp) :=
  runAll_map (P := State.TakesBits)
    (fun _ hu b _ => ⟨_, exec_dbit_of_check_none hu.noFault b (decCheck_tree 1 hu.tv hu.nonempty)⟩)
    (fun _ b rsp hu => (hu.foldl_decBit [b]).withRsp rsp) (fun u b rsp => decBit_withRsp u rsp b) h

/-- The DBITs of a sequence's codes and DEND, in any CORE with the same tally. -/
theorem State.CodedFor.runAll_dbits_dend (h : t.CodedFor S) (hd : d.ReadyFor S) (hu : d.udc = true) :
    ∃ rsp, runAll ((t.encodeBits S).map .dbit ++ [.dend]) d =
      some ({ d with outsym := d.outsym ++ S, rsp := rsp }.respond statOk 0#32) := by
  have hbits : ∃ rsp, runAll ((t.encodeBits S).map .dbit) d =
      some (((t.encodeBits S).foldl decBit d).withRsp rsp) := by
    by_cases hS : S = []
    · subst hS
      exact ⟨d.rsp, rfl⟩
    · exact (hd.takesBits hu hS).runAll_dbits _
  obtain ⟨rsp, hbits⟩ := hbits
  have hr := hd.withRsp rsp
  refine ⟨rsp, ?_⟩
  rw [runAll_append_of_some hbits, ← foldl_withRsp d rsp decBit_withRsp]
  exact runAll_cons_of_next (exec_dend_of_decEnd_done (by simpa using hr.noFault) (by simpa using hr.tv)
    (h.decEnd_encodeBits hr)) []

end Sessions

/-- Settles O59: the codes of S go to OUTBIT, and the CORE that made them decodes them. -/
theorem decodeSessionInvertsEncodeOnBits : Obligations.DecodeSessionInvertsEncodeOnBits := by
  intro s S h0 hfreq hle
  have hroute : exec (.wrcsr 0x00#8 2#32) s = .next ({ s with epk := false, udc := true }.respond statOk 0#32) :=
    exec_wrcsr_of_some h0 (csrWrite_ctrl (by decide))
  obtain ⟨g, rsp, hsame, hcoded, hrun⟩ :=
    exists_runAll_countAndEncode (s := { s with epk := false, udc := true }.respond statOk 0#32) h0 hfreq hle
  rw [foldl_emitCodeBit_outbit hsame.epk] at hrun
  have ht := (hcoded.withPacker g.pacc g.pn g.padlen g.outbyte (g.outbit ++ g.encodeBits S)).withRsp rsp
  obtain ⟨rsp', hdec⟩ := ht.runAll_dbits_dend ht.toReadyFor hsame.udc
  exact ⟨_, _, (runAll_cons_of_next hroute _).trans hrun, ht.noFault, congrArg (· ++ g.encodeBits S) hsame.outbit,
    hdec, ht.noFault, congrArg (· ++ S) hsame.outsym, List.getLast?_concat⟩

end Sys2Proof.Machine

/-! PROOFS, 48_composition, the round-trip through the packer (R220 to R222, R224): the encode session's units unpack to
the codes of its sequence, and the decode session on them appends the sequence where the tree is the session's own or a
reloaded one. -/

namespace Sys2Proof.Machine

section Sessions

variable {s t d : State} {S : List Symbol}

/-! ## Packing (R220) -/

theorem exec_clear (h0 : s.errCause = 0#4) :
    exec .clear s = .next ({ s with freq := Vector.replicate 256 0#32 }.invalidate.respond statOk 0#32) :=
  exec_of_cmdBody_done h0 rfl

theorem readFreq_of_replicate (h : s.freq = Vector.replicate 256 0#32) (sym : Symbol) : s.readFreq sym = 0#32 := by
  rw [State.readFreq, h]
  exact Vector.getElem_replicate _

/-- Commands that only answer leave the state as it is, responses apart. -/
theorem runAll_of_answers {l : List Instr} (hl : ∀ i ∈ l, ∀ u, ∃ v, cmdBody i u = .done u v)
    (h0 : s.errCause = 0#4) : ∃ rsp, runAll l s = some (s.withRsp rsp) := by
  have hexec : ∀ u : State, u.errCause = 0#4 → ∀ i ∈ l, ∃ v, exec i u = .next (u.respond statOk v) := by
    intro u hu i hi
    obtain ⟨v, hv⟩ := hl i hi u
    exact ⟨v, exec_of_cmdBody_done hu hv⟩
  obtain ⟨rsp, hrun⟩ := runAll_map (i := id) (f := fun u _ => u) (P := fun u => u.errCause = 0#4) hexec
    (fun _ _ _ hu => hu) (fun _ _ _ => rfl) h0
  rw [List.map_id, List.foldl_fixed] at hrun
  exact ⟨rsp, hrun⟩

/-- The reads at the end of an encode session: PADLEN and the table. -/
theorem runAll_session_reads (h0 : s.errCause = 0#4) :
    ∃ rsp, runAll (.rdcsr 0x07#8 :: (List.finRange 256).map fun sym => .rdfreq (BitVec.ofNat 8 sym.val)) s =
      some (s.withRsp rsp) := by
  refine runAll_of_answers (fun i hi u => ?_) h0
  rcases List.mem_cons.1 hi with rfl | hi
  · exact ⟨_, rfl⟩
  · obtain ⟨sym, -, rfl⟩ := List.mem_map.1 hi
    exact ⟨_, rfl⟩

/-- The units that hold a bit sequence unpack to it, whatever OUTBYTE held before (44_bit_unpacker R175). -/
theorem exists_units_of_pflush (q : List Bool) (h0 : s.errCause = 0#4) (hpn : s.pn = 0#3) :
    ∃ units, exec .pflush (q.foldl packBit s) = .next { s with
        outbyte := s.outbyte ++ units, padlen := BitVec.ofNat 3 (padLength q.length), pacc := 0#8, pn := 0#3,
        rsp := s.rsp ++ [rspWord 0#4 0#32] } ∧
      unpackStream units (BitVec.ofNat 3 (padLength q.length)).toNat = q ∧ (q = [] → units = []) := by
  obtain ⟨units, hflush, hlen, hbits⟩ := packerAppendsPack s q h0 hpn
  have hpad := padLength_lt q.length
  refine ⟨units, hflush, ?_, ?_⟩
  · rw [BitVec.toNat_ofNat, Nat.mod_eq_of_lt hpad]
    exact UnitsHold.unpackStream_eq (fun m hm i hi => hbits m i hm hi) hlen hpad
  · rintro rfl
    exact List.length_eq_zero_iff.1 (by simpa [padLength] using hlen)

/-- The encode session through the packer leaves a coded CORE, and units that unpack to the codes with the pad length
that it recorded. -/
theorem exists_runAll_encodeSession (h0 : s.errCause = 0#4) (hpn : s.pn = 0#3) (hepk : s.epk = true)
    (hle : ∀ sym, S.count sym ≤ 2 ^ 32 - 1) :
    ∃ t units, runAll (encodeSession S) s = some t ∧ t.CodedFor S ∧ t.udc = s.udc ∧ t.outsym = s.outsym ∧
      t.outbyte = s.outbyte ++ units ∧ unpackStream units t.padlen.toNat = t.encodeBits S ∧
      (S = [] → units = []) := by
  obtain ⟨g, rsp, hsame, hcoded, hrun⟩ := exists_runAll_countAndEncode
    (s := { s with freq := Vector.replicate 256 0#32 }.invalidate.respond statOk 0#32) h0
    (readFreq_of_replicate rfl) hle
  have hr := hcoded.withRsp rsp
  rw [foldl_emitCodeBit_epk (hsame.epk.trans hepk), ← foldl_withRsp g rsp packBit_withRsp] at hrun
  obtain ⟨units, hflush, hunits, hnil⟩ := exists_units_of_pflush (g.encodeBits S) hr.noFault (hsame.pn.trans hpn)
  have ht := hr.withPacker 0#8 0#3 (BitVec.ofNat 3 (padLength (g.encodeBits S).length)) (g.outbyte ++ units) g.outbit
  obtain ⟨rsp', hreads⟩ := runAll_session_reads (ht.withRsp (rsp ++ [rspWord 0#4 0#32])).noFault
  refine ⟨_, units, ?_, ht.withRsp rsp', hsame.udc, hsame.outsym, congrArg (· ++ units) hsame.outbyte, hunits,
    fun hS => hnil (by rw [hS]; rfl)⟩
  rw [encodeSession, List.cons_append, List.cons_append, runAll_cons_of_next (exec_clear h0), List.append_assoc,
    runAll_append_of_some hrun, List.cons_append, List.singleton_append, runAll_cons_of_next hflush]
  exact hreads

/-! ## Unpacking (R221) -/

/-- A packed stream is units that are not the last, and the last one. -/
theorem exists_ubytes_eq (u : Byte) (rest : List Byte) :
    ∃ (init : List Byte) (last : Byte), ubytes u rest = init.map .ubyte ++ [.ulast last] ∧
      ∀ p, unpackStream (u :: rest) p = init.flatMap (unitBits · 0) ++ unitBits last p := by
  induction rest generalizing u with
  | nil => exact ⟨[], u, rfl, fun p => rfl⟩
  | cons v rest ih =>
    obtain ⟨init, last, hcmds, hbits⟩ := ih v
    refine ⟨u :: init, last, ?_, fun p => ?_⟩
    · rw [ubytes, hcmds]
      rfl
    · rw [unpackStream, hbits, List.flatMap_cons, List.append_assoc]

theorem State.TakesBits.exec_ubyte (h : s.TakesBits) (byte : Byte) :
    exec (.ubyte byte) s = .next (((unitBits byte 0).foldl decBit s).respond statOk 0#32) := by
  rw [← foldl_deliverBit_udc h.udc]
  exact exec_of_cmdBody_done h.noFault (ubyteBody_of_check_none (unpackCheck_tree h.udc h.tv h.nonempty))

theorem State.TakesBits.exec_ulast (h : s.TakesBits) {byte : Byte} {v : BitVec 32}
    (hd : decEnd ((unitBits byte s.upad.toNat).foldl decBit s) = .done t v) :
    exec (.ulast byte) s = .next (t.respond statOk v) :=
  exec_of_cmdBody_done h.noFault ((ulastBody_tree h.udc h.tv h.nonempty).trans hd)

theorem State.TakesBits.runAll_ubytes (h : s.TakesBits) (units : List Byte) :
    ∃ rsp, runAll (units.map .ubyte) s = some (((units.flatMap (unitBits · 0)).foldl decBit s).withRsp rsp) := by
  rw [List.foldl_flatMap]
  exact runAll_map (P := State.TakesBits) (fun _ hu byte _ => ⟨_, hu.exec_ubyte byte⟩)
    (fun _ byte rsp hu => (hu.foldl_decBit (unitBits byte 0)).withRsp rsp)
    (fun u byte rsp => foldl_withRsp u rsp decBit_withRsp (unitBits byte 0)) h

theorem exec_wrcsr_upad (h0 : s.errCause = 0#4) (padlen : BitVec 3) :
    exec (.wrcsr 0x08#8 (padlen.setWidth 32)) s = .next ({ s with upad := padlen }.respond statOk 0#32) := by
  have hlt := padlen.isLt
  have hval : (padlen.setWidth 32).toNat = padlen.toNat := by
    rw [BitVec.toNat_setWidth, Nat.mod_eq_of_lt (by omega)]
  rw [exec_wrcsr_of_some h0 (csrWrite_upad (by omega)), hval, BitVec.ofNat_toNat, BitVec.setWidth_eq]

/-- The UBYTEs and the ULAST of units that unpack to one CORE's codes, in a CORE with the same tally. -/
theorem State.CodedFor.runAll_ubytes_ulast (h : t.CodedFor S) (hd : d.ReadyFor S) (hu : d.udc = true) (hS : S ≠ [])
    {u : Byte} {rest : List Byte} (hunits : unpackStream (u :: rest) d.upad.toNat = t.encodeBits S) :
    ∃ rsp, runAll (ubytes u rest) d = some ({ d with outsym := d.outsym ++ S, rsp := rsp }.respond statOk 0#32) := by
  obtain ⟨init, last, hcmds, hbits⟩ := exists_ubytes_eq u rest
  obtain ⟨rsp, hinit⟩ := (hd.takesBits hu hS).runAll_ubytes init
  have hr := hd.withRsp rsp
  have hend := h.decEnd_encodeBits hr
  rw [← hunits, hbits, List.foldl_append] at hend
  refine ⟨rsp, ?_⟩
  rw [hcmds, runAll_append_of_some hinit, ← foldl_withRsp d rsp decBit_withRsp]
  refine runAll_cons_of_next (((hr.takesBits hu hS).foldl_decBit _).exec_ulast ?_) []
  rw [foldl_decBit_upad]
  exact hend

/-- The decode session of units that unpack to one CORE's codes appends the sequence in every CORE with the same
tally. -/
theorem State.CodedFor.exists_runAll_decodeSession (h : t.CodedFor S) (hd : d.ReadyFor S) (hu : d.udc = true)
    {units : List Byte} {padlen : BitVec 3} (hunits : unpackStream units padlen.toNat = t.encodeBits S)
    (hnil : S = [] → units = []) :
    ∃ u, runAll (decodeSession units padlen) d = some u ∧ u.errCause = 0#4 ∧ u.outsym = d.outsym ++ S := by
  cases units with
  | nil =>
    obtain ⟨rsp, hrun⟩ := h.runAll_dbits_dend hd hu
    rw [← hunits] at hrun
    exact ⟨_, hrun, hd.noFault, rfl⟩
  | cons u rest =>
    have hS : S ≠ [] := fun hS => List.cons_ne_nil u rest (hnil hS)
    have hupad := (hd.withUpad padlen).withRsp (d.rsp ++ [rspWord statOk 0#32])
    obtain ⟨rsp, hrun⟩ := h.runAll_ubytes_ulast hupad hu hS hunits
    exact ⟨_, (runAll_cons_of_next (exec_wrcsr_upad hd.noFault padlen) _).trans hrun, hd.noFault, rfl⟩

/-! ## Reloading (R222) -/

theorem exec_wrfreq (h0 : s.errCause = 0#4) (sym : Symbol) (cnt : Count) :
    exec (.wrfreq sym cnt) s = .next ((s.writeFreq sym cnt).invalidate.respond statOk 0#32) :=
  exec_of_cmdBody_done h0 (if_pos (countFits_cntw cnt))

/-- The WRFREQs of a table's entries that are not 0 complete the table, if all other entries are the table's already. -/
theorem exists_runAll_wrfreqs {freq : Vector Count 256} (l : List (Fin 256)) (h0 : s.errCause = 0#4)
    (hrest : ∀ sym : Symbol, (freq[sym.toFin] ≠ 0#32 → sym.toFin ∉ l) → s.readFreq sym = freq[sym.toFin]) :
    ∃ tv cv rsp, runAll (l.filterMap fun sym =>
        if freq[sym] = 0#32 then none else some (.wrfreq (BitVec.ofNat 8 sym.val) freq[sym])) s =
      some { s with freq := freq, tv := tv, cv := cv, rsp := rsp } := by
  induction l generalizing s with
  | nil =>
    have hfreq : s.freq = freq := Vector.ext fun i hi => hrest (BitVec.ofFin ⟨i, hi⟩) fun _ => List.not_mem_nil
    exact ⟨s.tv, s.cv, s.rsp, by rw [← hfreq]; rfl⟩
  | cons a l ih =>
    rw [List.filterMap_cons]
    by_cases ha : freq[a] = 0#32
    · rw [if_pos ha]
      refine ih h0 fun sym hsym => hrest sym fun hne => ?_
      have hsa : sym.toFin ≠ a := fun e => hne (e ▸ ha)
      exact List.not_mem_cons_of_ne_of_not_mem hsa (hsym hne)
    · rw [if_neg ha, runAll_cons_of_next (exec_wrfreq h0 _ _)]
      refine ih (s := (s.writeFreq (BitVec.ofNat 8 a.val) freq[a]).invalidate.respond statOk 0#32) h0 fun sym hsym => ?_
      have htoFin : (BitVec.ofNat 8 a.val).toFin = a := Fin.ext (Nat.mod_eq_of_lt a.isLt)
      by_cases hsa : BitVec.ofNat 8 a.val = sym
      · subst hsa
        exact (State.readFreq_writeFreq_self s _ _).trans (congrArg (fun i : Fin 256 => freq[i]) htoFin.symm)
      · refine (State.readFreq_writeFreq_other s _ hsa).trans (hrest sym fun hne => ?_)
        have hne' : sym.toFin ≠ a := fun e => hsa (BitVec.toFin_inj.1 (htoFin.trans e.symm))
        exact List.not_mem_cons_of_ne_of_not_mem hne' (hsym hne)

/-- A CORE that reloads the tally of a sequence is ready to decode it. -/
theorem exists_runAll_reloadSession (h0 : s.errCause = 0#4) {freq : Vector Count 256}
    (htally : ∀ sym : Symbol, (freq[sym.toFin]).toNat = S.count sym) :
    ∃ d, runAll (reloadSession freq) s = some d ∧ d.ReadyFor S ∧ d.udc = s.udc ∧ d.outsym = s.outsym := by
  obtain ⟨tv, cv, rsp, hload⟩ := exists_runAll_wrfreqs (freq := freq) (List.finRange 256)
    (s := { s with freq := Vector.replicate 256 0#32 }.invalidate.respond statOk 0#32) h0 fun sym hsym => by
      rw [readFreq_of_replicate rfl, not_not.1 fun hne => hsym hne (List.mem_finRange _)]
  have hready : ({ s with freq := freq }.writeTree (buildTree freq s.nodes)).treePublished.ReadyFor S :=
    ⟨h0, htally, rfl, ⟨s.nodes, rfl⟩, rfl⟩
  refine ⟨_, ?_, hready.withRsp (rsp ++ [rspWord statOk 0#32]), rfl, rfl⟩
  rw [reloadSession, List.cons_append, runAll_cons_of_next (exec_clear h0), runAll_append_of_some hload]
  exact runAll_cons_of_next (exec_build_of_running (by exact h0)) []

end Sessions

/-- Settles O60: the units that the encode session appends unpack to S's codes, which the same CORE and one that reloads
its table decode. -/
theorem sessionsRoundTripThroughPacker : Obligations.SessionsRoundTripThroughPacker := by
  intro s other S h0 hpn hepk hudc hother hudc' hle
  obtain ⟨t, units, henc, hcoded, htudc, htsym, hbytes, hunits, hnil⟩ := exists_runAll_encodeSession h0 hpn hepk hle
  obtain ⟨u, hu, hu0, husym⟩ :=
    hcoded.exists_runAll_decodeSession hcoded.toReadyFor (htudc.trans hudc) hunits hnil
  obtain ⟨d, hreload, hready, hdudc, hdsym⟩ := exists_runAll_reloadSession hother hcoded.tally
  obtain ⟨v, hv, hv0, hvsym⟩ := hcoded.exists_runAll_decodeSession hready (hdudc.trans hudc') hunits hnil
  rw [htsym] at husym
  rw [hdsym] at hvsym
  exact ⟨t, u, v, units, henc, hcoded.noFault, hbytes, hu, hu0, husym,
    (runAll_append_of_some hreload _).trans hv, hv0, hvsym⟩

end Sys2Proof.Machine

/-! PROOFS, 60_exceptions (R247, R248, R252): what a halted CORE answers to the words it does not run, what a fault
leaves, and which command raises which; and the idle step (R260). -/

namespace Sys2Proof.Machine

/-- Settles O7: the idle branch of `fetch`. -/
theorem idleKeepsState : Obligations.IdleKeepsState := fun _ hin => step_of_idle hin

section Exceptions

variable {s s' t : State} {i : Instr} {c : Cause}

/-! ## The words a halted CORE refuses (R248) -/

theorem runsHalted_eq_false (hsrst : i ≠ .srst) (hrdcsr : ∀ csr, i ≠ .rdcsr csr) : runsHalted i s = false := by
  by_contra hr
  rcases runsHalted_cases (Bool.eq_true_of_not_eq_false hr) with h | ⟨csr, h⟩
  · exact hsrst h
  · exact hrdcsr csr h

/-- Settles O9: an illegal word is refused as such, a legal one by the dispatch procedure. -/
theorem haltedCoreRefuses : Obligations.HaltedCoreRefuses := by
  intro s w rest hin hhalt hexcl
  cases hd : decode w with
  | ok i =>
    obtain ⟨hsrst, hrdcsr⟩ := hexcl i hd
    rw [step_of_command hin hd]
    exact exec_refused (s := { s with input := rest }) hhalt (runsHalted_eq_false hsrst hrdcsr)
  | error e =>
    rw [step_of_illegal hin (by simp [hd]), illegalWord_of_halted (s := { s with input := rest }) hhalt]
    rfl

/-! ## Where a fault comes from (R245, R246) -/

/-- No pseudocode that completes leaves ERR set in a CORE that was not halted: ERR is the dispatch procedure's. -/
theorem CompletedEffect.errCause_eq_zero (heff : CompletedEffect i s s') (h0 : s.errCause = 0#4) :
    s'.errCause = 0#4 := by
  cases i with
  | srst => obtain rfl := heff; rfl
  | nop | rdcsr _ | rdfreq _ | rdclen _ | rdcode _ _ | build => obtain rfl := heff; exact h0
  | clear | count _ | wrfreq _ _ | dend => obtain ⟨_, rfl⟩ := heff; exact h0
  | gen => obtain ⟨-, _, -, rfl⟩ := heff; exact h0
  | dbit _ => obtain ⟨_, _, rfl⟩ := heff; exact h0
  | wrcsr _ _ | pbit _ | ubyte _ | ulast _ => obtain ⟨_, _, _, rfl⟩ := heff; exact h0
  | enc _ | pflush => obtain ⟨_, _, _, _, rfl⟩ := heff; exact h0

/-- A command that leaves ERR set, in a CORE that was not halted, raised the fault in its pseudocode. -/
theorem exec_fault (h0 : s.errCause = 0#4) (h : exec i s = .next t) (ht : t.errCause ≠ 0#4) :
    ∃ c s', cmdBody i s = .raise c s' ∧ t = s'.faultEntry c i.opc i.aField := by
  rcases exec_next h with ⟨hhalt, -⟩ | ⟨-, s', v, hb, rfl⟩ | ⟨-, hraise⟩
  · exact absurd h0 hhalt
  · exact absurd ((cmdBody_done hb).errCause_eq_zero h0) ht
  · exact hraise

/-! ## The decoder's faults (44_bit_unpacker R172, R173, 45_decoder R181, R184) -/

theorem decEnd_raise_cause (h : decEnd s = .raise c s') : c = .truncatedStream := by
  rcases decEnd_cases s with ⟨-, hd⟩ | ⟨-, hd⟩ | ⟨-, -, -, hd⟩ | ⟨-, -, -, hd⟩ <;> rw [hd] at h <;> cases h
  rfl

theorem mem_of_decCheck_eq_some {nbits : Nat} (h : decCheck nbits s = some c) : c ∈ [Cause.noTree, .emptyTreeBit] := by
  rcases decCheck_eq_some h with ⟨rfl, -⟩ | ⟨rfl, -⟩ <;> decide

/-- The check of an unpacker command is the decoder's, made with UDC = 1 only. -/
theorem unpackCheck_eq_some_iff {nbits : Nat} :
    unpackCheck nbits s = some c ↔ s.udc = true ∧ decCheck nbits s = some c := by
  simp [unpackCheck]

/-- ULAST's faults by their causes: the check's, with nothing moved, and TruncatedStream after the data bits have gone
to the decoder. -/
theorem ulastBody_raise_cases {byte : Byte} (h : ulastBody byte s = .raise c s') :
    (unpackCheck (8 - s.upad.toNat) s = some c ∧ s' = s) ∨
      (s.udc = true ∧ c = .truncatedStream ∧ s' = (unitBits byte s.upad.toNat).foldl decBit s) := by
  unfold ulastBody at h
  split at h
  · next hc => cases h; exact .inl ⟨hc, rfl⟩
  · dsimp only at h
    split at h
    · next hu =>
      rw [foldl_deliverBit_udc hu] at h
      exact .inr ⟨hu, decEnd_raise_cause h, decEnd_raise h⟩
    · cases h

/-! ## Faults are precise (R247) -/

/-- A command that faults has written nothing, but for the TruncatedStream of ULAST, which comes after CUR and OUTSYM
have moved. -/
theorem cmdBody_raise_precise (h : cmdBody i s = .raise c s') :
    s' = s ∨ c = .truncatedStream ∧ (∃ byte, i = .ulast byte) ∧
      ∃ cur outsym, s' = { s with cur := cur, outsym := outsym } := by
  rcases cmdBody_raise h with hs | ⟨byte, rfl, -⟩
  · exact .inl hs
  · rcases ulastBody_raise_cases h with ⟨-, hs⟩ | ⟨-, hc, rfl⟩
    · exact .inl hs
    · exact .inr ⟨hc, ⟨byte, rfl⟩, _, _, foldl_decBit_only _ _⟩

/-- Settles O13: fault entry on the state that the pseudocode left. -/
theorem faultsArePrecise : Obligations.FaultsArePrecise := by
  intro i s t h0 h ht
  obtain ⟨c, s', hb, rfl⟩ := exec_fault h0 h ht
  rcases cmdBody_raise_precise hb with rfl | ⟨rfl, ⟨byte, rfl⟩, cur, outsym, rfl⟩
  · exact ⟨rfl, fun _ => ⟨rfl, rfl⟩⟩
  · refine ⟨rfl, ?_⟩
    rintro (hcause | hulast)
    · exact absurd rfl hcause
    · exact absurd rfl (hulast byte)

/-! ## Which command raises which fault (R252) -/

/-- A legal CSR number has a view (R86, 10_state R34). -/
theorem exists_csrView_of_wf {csr : BitVec 8} (hwf : (Instr.rdcsr csr).wf = true) : ∃ v, s.csrView csr = some v := by
  obtain ⟨hrange, -, -⟩ := (wf_iff_operandRanges rfl).1 hwf
  have hcsr : csr.toNat ≤ 0x09 := by simpa [encode, Instr.opc, Instr.aField] using hrange
  unfold State.csrView
  interval_cases csr.toNat <;> exact ⟨_, rfl⟩

/-- A legal write of a CSR is carried out (R86, 46_system R204). -/
theorem exists_csrWrite_of_wf {csr : BitVec 8} {data : BitVec 32} (hwf : (Instr.wrcsr csr data).wf = true) :
    ∃ s', s.csrWrite csr data = some s' := by
  obtain ⟨-, hrange, -⟩ := (wf_iff_operandRanges rfl).1 hwf
  have hlegal : (csr = 0x00#8 ∧ data.toNat ≤ 3) ∨ (csr = 0x08#8 ∧ data.toNat ≤ 7) := by
    simpa [encode, Instr.opc, Instr.aField, Instr.dField] using hrange
  rcases hlegal with ⟨rfl, hd⟩ | ⟨rfl, hd⟩
  · exact ⟨_, csrWrite_ctrl hd⟩
  · exact ⟨_, csrWrite_upad hd⟩

/-- The causes a well-formed command's pseudocode raises are R252's. -/
theorem cmdBody_raise_mem_mayRaise (hwf : i.wf = true) (h : cmdBody i s = .raise c s') : c ∈ mayRaise i s := by
  cases i with
  | nop | srst | clear | rdfreq _ | build | pbit _ | pflush => cases h
  | rdcsr csr =>
    obtain ⟨v, hv⟩ := exists_csrView_of_wf (s := s) hwf
    simp only [cmdBody, hv] at h
    cases h
  | wrcsr csr data =>
    obtain ⟨s'', hw⟩ := exists_csrWrite_of_wf (s := s) hwf
    simp only [cmdBody, hw] at h
    cases h
  | wrfreq sym cnt =>
    simp only [cmdBody, countFits_cntw, if_true] at h
    cases h
  | count _ | gen | rdclen _ | rdcode _ _ | enc _ =>
    simp only [cmdBody, countBody, genBody, encBody] at h
    repeat' split at h
    all_goals cases h
    exact List.mem_singleton_self _
  | ubyte byte =>
    simp only [cmdBody, ubyteBody] at h
    split at h <;> cases h
    next hc =>
    obtain ⟨hu, hc⟩ := unpackCheck_eq_some_iff.1 hc
    rw [mayRaise, if_pos hu]
    exact mem_of_decCheck_eq_some hc
  | ulast byte =>
    rcases ulastBody_raise_cases h with ⟨hc, -⟩ | ⟨hu, rfl, -⟩
    · obtain ⟨hu, hc⟩ := unpackCheck_eq_some_iff.1 hc
      rw [mayRaise, if_pos hu]
      exact List.mem_append_left [.truncatedStream] (mem_of_decCheck_eq_some hc)
    · rw [mayRaise, if_pos hu]
      decide
  | dbit bit =>
    simp only [cmdBody] at h
    split at h <;> cases h
    next hc => exact mem_of_decCheck_eq_some hc
  | dend =>
    simp only [cmdBody] at h
    split at h
    · next hc =>
      cases h
      rcases decCheck_eq_some hc with ⟨rfl, -⟩ | ⟨-, -, -, hpos⟩
      · exact List.mem_cons_self
      · exact absurd hpos (lt_irrefl 0)
    · obtain rfl := decEnd_raise_cause h
      exact List.mem_cons_of_mem _ (List.mem_singleton_self _)

/-- Settles O14: ERR.CAUSE is the code of the cause that the pseudocode raised. -/
theorem faultsPerCommand : Obligations.FaultsPerCommand := by
  intro i s t hwf h0 h ht
  obtain ⟨c, s', hb, rfl⟩ := exec_fault h0 h ht
  exact ⟨c, cmdBody_raise_mem_mayRaise hwf hb, rfl⟩

end Exceptions

end Sys2Proof.Machine
